-- ==== Sys2Proof/Word.lean ====
section
/-! DEFINITION. The words the EB6400's manual counts in: bytes, 16-bit fields, link, class, DCN and group numbers
(spec/00_scope.md, Conventions: Numbering). -/

namespace Sys2Proof

/-- One byte of a cell or of the boot image. -/
abbrev Byte := BitVec 8

/-- A 16-bit field: an epoch number, an INDEX, a configuration value. -/
abbrev Half := BitVec 16

/-- A link number, 0 to 63. -/
abbrev LinkId := Fin 64

/-- A traffic class, 0 to 3. -/
abbrev ClassId := Fin 4

/-- A destination card number, 0 to 119. -/
abbrev Dcn := Fin 120

/-- A multicast group, 0 to 511. -/
abbrev GroupId := Fin 512

/-- All 64 links, in rising order. -/
def allLinks : List LinkId := List.finRange 64

/-- The four classes, in rising order. -/
def allClasses : List ClassId := [0, 1, 2, 3]

end Sys2Proof
end

