-- ==== Sys2Proof/Syntax.lean ====
section
/-! DEFINITION. The commands the block takes: one constructor of `Instr` per row of spec/opcode_table.json, with the
cells, the storage upsets and the bus results that some of them carry. -/

namespace Sys2Proof

/-- R3: the header of a cell, field by field in the order sent. -/
structure Header where
  type    : BitVec 4
  cls     : BitVec 2
  dest    : BitVec 10
  context : BitVec 40
  hchk    : Byte
  deriving DecidableEq, Repr

/-- The 64 payload bytes of a cell, byte 0 first. -/
abbrev Payload := Vector Byte 64

/-- A cell of 72 bytes: an 8-byte header and a 64-byte payload. -/
structure Cell where
  header  : Header
  payload : Payload
  deriving DecidableEq, Repr

/-- R49: the three route sets. -/
inductive RouteSetId where
  | stageA
  | stageB
  | active
  deriving DecidableEq, Repr

/-- R50: the contents of a Destination entry as they are stored; after an upset COUNT and the members may be any bytes. -/
structure DestContents where
  valid   : Bool
  count   : Byte
  members : Vector Byte 4
  deriving DecidableEq, Repr

/-- R51: the contents of a Group entry as they are stored. -/
structure GroupContents where
  valid   : Bool
  echo    : Bool
  count   : Byte
  members : Vector Byte 32
  deriving DecidableEq, Repr

/-- R52: where a storage upset falls, and the contents it leaves there (it may alter any of them). -/
inductive Upset where
  | dest (set : RouteSetId) (d : Dcn) (contents : DestContents)
  | group (set : RouteSetId) (g : GroupId) (contents : GroupContents)
  deriving DecidableEq, Repr

/-- R196: the three events that end a transfer of the boot bus. -/
inductive BusResult where
  | success (bytes : List Byte)
  | noAck
  | arbitrationLost
  deriving DecidableEq, Repr

/-- The commands, in the order of the table. A row of a received cell carries the arrival link and the cell.
`elapsed` is the reading of the window timer, in whole microseconds, at which an external epoch is taken (R156). -/
inductive Instr where
  /-- ELEMENT_RESET (R191), with the levels sampled on BOOT_SEL and ID[5:0]. -/
  | elementReset (bootSel : Bool) (id : BitVec 6)
  /-- RESET_N_LOW (R191). -/
  | resetNLow
  /-- SIGNAL_LOST (R22). -/
  | signalLost (l : LinkId)
  /-- SIGNAL_RESTORED (R22). -/
  | signalRestored (l : LinkId)
  /-- ALIGNMENT_GAINED (R22). -/
  | alignmentGained (l : LinkId)
  /-- ALIGNMENT_LOST (R22). -/
  | alignmentLost (l : LinkId)
  /-- DATA_U_RECEIVED (R62). -/
  | dataUReceived (l : LinkId) (cell : Cell)
  /-- DATA_M_RECEIVED (R64). -/
  | dataMReceived (l : LinkId) (cell : Cell)
  /-- FLOW_RECEIVED (R127). -/
  | flowReceived (l : LinkId) (cell : Cell)
  /-- MGMT_RECEIVED (R164). -/
  | mgmtReceived (l : LinkId) (cell : Cell)
  /-- SYNC_RECEIVED (R159). -/
  | syncReceived (l : LinkId) (cell : Cell) (elapsed : Nat)
  /-- IDLE_RECEIVED (R28). -/
  | idleReceived (l : LinkId) (cell : Cell)
  /-- MARKER_RECEIVED (R35). -/
  | markerReceived (l : LinkId) (cell : Cell)
  /-- TEST_RECEIVED (R46). -/
  | testReceived (l : LinkId) (cell : Cell)
  /-- DAMAGED_CELL_RECEIVED (R17). -/
  | damagedCellReceived (l : LinkId) (cell : Cell)
  /-- UNKNOWN_TYPE_RECEIVED (R17). -/
  | unknownTypeReceived (l : LinkId) (cell : Cell)
  /-- STORAGE_UPSET (R52). -/
  | storageUpset (u : Upset)
  /-- BLANK_TIMER_EXPIRY (R26). -/
  | blankTimerExpiry (l : LinkId)
  /-- LOSS_TIMER_EXPIRY (R33). -/
  | lossTimerExpiry (l : LinkId)
  /-- GAP_TIMER_EXPIRY (R121). -/
  | gapTimerExpiry
  /-- TIMER_BOUNDARY (R151). -/
  | timerBoundary
  /-- HOLDOVER_BOUNDARY (R156). -/
  | holdoverBoundary
  /-- EPOCH_IN_RISING_EDGE (R158). -/
  | epochInRisingEdge (elapsed : Nat)
  /-- EPOCH_IN_FALLING_EDGE (R158). -/
  | epochInFallingEdge
  /-- STUCK_TIMER_EXPIRY (R158). -/
  | stuckTimerExpiry
  /-- EPOCH_OUT_FALL (R154). -/
  | epochOutFall
  /-- LINK_BOUNDARY_WORK (R34, R36, R39, R43) of one link unit. -/
  | linkBoundaryWork (l : LinkId)
  /-- FLAP_CLEAR (R36). -/
  | flapClear (l : LinkId)
  /-- DRAIN_LIMIT (R39). -/
  | drainLimit (l : LinkId)
  /-- HOLD_DOWN_END (R43). -/
  | holdDownEnd (l : LinkId)
  /-- COMMIT_BOUNDARY (R75, R76, R86). -/
  | commitBoundary
  /-- REFRESH (R123). -/
  | refresh
  /-- NOTICE_BOUNDARY (R185). -/
  | noticeBoundary
  /-- WALK_EXAMINATION (R72). -/
  | walkExamination
  /-- CHECK_COMPLETION (R73). -/
  | checkCompletion
  /-- FLUSH_REMOVAL (R110). -/
  | flushRemoval (l : LinkId)
  /-- FLUSH_COMPLETION (R111). -/
  | flushCompletion (l : LinkId)
  /-- TRANSMIT_READY (R135). -/
  | transmitReady (l : LinkId)
  /-- READ (R171): the service of a READ at the head of the request queue. -/
  | read
  /-- READ_CLEAR (R172). -/
  | readClear
  /-- WRITE (R169) of an object with no write rule of its own. -/
  | write
  /-- WRITE_CONFIG (R173). -/
  | writeConfig
  /-- WRITE_PORT_MAP (R24). -/
  | writePortMap
  /-- WRITE_STAGE (R54, R80). -/
  | writeStage
  /-- WRITE_ACTIVE (R55). -/
  | writeActive
  /-- WRITE_MASKS (R183). -/
  | writeMasks
  /-- COMMIT (R71) with a target epoch. -/
  | commit
  /-- COMMIT_NOW (R71). -/
  | commitNow
  /-- CANCEL_COMMIT (R81). -/
  | cancelCommit
  /-- LINK_ENABLE (R25). -/
  | linkEnable
  /-- LINK_DISABLE_NOW (R37). -/
  | linkDisableNow
  /-- LINK_DISABLE_DRAIN (R38). -/
  | linkDisableDrain
  /-- LINK_TEST (R45). -/
  | linkTest
  /-- SET_EPOCH (R160). -/
  | setEpoch
  /-- CLOSE_CONFIG (R168). -/
  | closeConfig
  /-- SOFT_RESET (R179). -/
  | softReset
  /-- ECHO (R178). -/
  | echo
  /-- UNKNOWN_COMMAND (R169). -/
  | unknownCommand
  /-- BUS_TRANSFER_END (R196). -/
  | busTransferEnd (r : BusResult)
  /-- TRANSFER_REPEAT (R196). -/
  | transferRepeat
  deriving DecidableEq, Repr

end Sys2Proof
end

