-- ==== Sys2Proof/Machine/Bytes.lean ====
section
/-! DEFINITION. Byte order and bit fields: how 16-bit and 32-bit fields, and lists of bits, stand in the bytes of a payload
(spec/00_scope.md, Conventions: Field layouts; most significant byte first, bit 7 most significant). -/

namespace Sys2Proof

/-- The more significant byte of a 16-bit field. -/
def hiByte (w : Half) : Byte := w.extractLsb' 8 8

/-- The less significant byte of a 16-bit field. -/
def loByte (w : Half) : Byte := w.extractLsb' 0 8

/-- A 16-bit field from its two bytes, the first sent being the more significant. -/
def half (hi lo : Byte) : Half := hi ++ lo

/-- A 16-bit field as it is sent. -/
def bytes16 (w : Half) : List Byte := [hiByte w, loByte w]

/-- A 32-bit field as it is sent. -/
def bytes32 (w : BitVec 32) : List Byte :=
  [w.extractLsb' 24 8, w.extractLsb' 16 8, w.extractLsb' 8 8, w.extractLsb' 0 8]

/-- A count reported in two bytes. -/
def natHalf (n : Nat) : List Byte := bytes16 (BitVec.ofNat 16 n)

/-- A count reported in one byte. -/
def natByte (n : Nat) : Byte := BitVec.ofNat 8 n

/-- Byte i of a field list, 0 beyond its end. -/
def byteAt (l : List Byte) (i : Nat) : Byte := l.getD i 0

/-- The 16-bit field that begins at byte i. -/
def halfAt (l : List Byte) (i : Nat) : Half := half (byteAt l i) (byteAt l (i + 1))

/-- The first n bytes of l, filled with zero bytes to that length. -/
def padTo (n : Nat) (l : List Byte) : List Byte := (l ++ List.replicate n 0).take n

theorem padTo_length (n : Nat) (l : List Byte) : (padTo n l).length = n := by
  simp [padTo]

/-- The `len` bytes of l that begin at byte `start`, zero beyond its end. -/
def field (l : List Byte) (start len : Nat) : List Byte := padTo len (l.drop start)

/-- A byte from eight bits, bit 7 first. -/
def byteOfBits (bits : List Bool) : Byte :=
  bits.foldl (fun r b => (r <<< 1) ||| (BitVec.ofBool b).setWidth 8) 0

/-- A bit as a byte with that bit at position `i`. -/
def bitAt (b : Bool) (i : Nat) : Byte := if b then BitVec.twoPow 8 i else 0

/-- A 64-byte payload from its first bytes, the rest zero. -/
def payloadOf (l : List Byte) : Payload := ⟨(padTo 64 l).toArray, by simp [padTo_length]⟩

/-- A vector of n bytes from a list, zero beyond its end. -/
def bytesVec (n : Nat) (l : List Byte) : Vector Byte n := ⟨(padTo n l).toArray, by simp [padTo_length]⟩

/-- One bit of a flag word set. -/
def setBitAt {w : Nat} (x : BitVec w) (i : Nat) : BitVec w := x ||| BitVec.twoPow w i

/-- R189: a counter raised by 1, unless it stands at its limit. -/
def countUp {w : Nat} (x : BitVec w) : BitVec w := if x = BitVec.allOnes w then x else x + 1

end Sys2Proof
end

