-- ==== Sys2Proof/Machine/Checks.lean ====
section
/-! DEFINITION. The header as bytes (R3), the header check (R5), the payload check (R6) and the boot image check (R193):
cyclic redundancy checks, each byte taken most significant bit first. -/

namespace Sys2Proof

/-- One bit of a cyclic redundancy check with the given generator (its top term left out). -/
def crcBit {w : Nat} (poly reg : BitVec w) (bit : Bool) : BitVec w :=
  if reg.msb != bit then (reg <<< 1) ^^^ poly else reg <<< 1

/-- One byte, most significant bit first. -/
def crcByte {w : Nat} (poly reg : BitVec w) (b : Byte) : BitVec w :=
  [7, 6, 5, 4, 3, 2, 1, 0].foldl (fun r i => crcBit poly r (b.getLsbD i)) reg

/-- The register after all the bytes, in order. -/
def crc {w : Nat} (poly init : BitVec w) (bytes : List Byte) : BitVec w :=
  bytes.foldl (crcByte poly) init

/-- R5: x^8 + x^2 + x + 1, register zero, no inversion. -/
def crc8 (bytes : List Byte) : Byte := crc 0x07#8 0 bytes

/-- R6: x^16 + x^12 + x^5 + 1, register all ones, no inversion. -/
def crc16 (bytes : List Byte) : Half := crc 0x1021#16 0xFFFF bytes

/-- R193: generator 04C11DB7, register all ones, final value inverted. -/
def crc32 (bytes : List Byte) : BitVec 32 := ~~~ crc 0x04C11DB7#32 0xFFFFFFFF bytes

/-- R3: the cell types and their codes. -/
inductive CellType where
  | idle
  | dataU
  | dataM
  | flow
  | mgmt
  | sync
  | marker
  | test
  deriving DecidableEq, Repr

/-- R3: the code of a type. -/
def CellType.code : CellType → BitVec 4
  | .idle => 0
  | .dataU => 1
  | .dataM => 2
  | .flow => 3
  | .mgmt => 4
  | .sync => 5
  | .marker => 6
  | .test => 7

/-- R3: header bytes 0 to 6 as one field of 56 bits. -/
def Header.bits (h : Header) : BitVec 56 := (h.type ++ h.cls ++ h.dest ++ h.context : BitVec 56)

/-- R3: header bytes 0 to 6. -/
def Header.bytes7 (h : Header) : List Byte :=
  [h.bits.extractLsb' 48 8, h.bits.extractLsb' 40 8, h.bits.extractLsb' 32 8, h.bits.extractLsb' 24 8,
   h.bits.extractLsb' 16 8, h.bits.extractLsb' 8 8, h.bits.extractLsb' 0 8]

/-- R3: the header read from its 8 bytes. -/
def Header.ofBytes (b : List Byte) : Header :=
  let w : BitVec 56 := (byteAt b 0 ++ byteAt b 1 ++ byteAt b 2 ++ byteAt b 3 ++ byteAt b 4 ++ byteAt b 5 ++ byteAt b 6 : BitVec 56)
  { type := w.extractLsb' 52 4, cls := w.extractLsb' 50 2, dest := w.extractLsb' 40 10, context := w.extractLsb' 0 40,
    hchk := byteAt b 7 }

/-- The 72 bytes of a cell, in the order sent. -/
def Cell.bytes (c : Cell) : List Byte := c.header.bytes7 ++ [c.header.hchk] ++ c.payload.toList

/-- The cell that stands in 72 bytes. -/
def Cell.ofBytes (b : List Byte) : Cell := { header := Header.ofBytes b, payload := payloadOf (b.drop 8) }

/-- R5: the header check passes. -/
def Cell.headerOk (c : Cell) : Bool := crc8 c.header.bytes7 == c.header.hchk

/-- Payload byte i. -/
def Cell.byte (c : Cell) (i : Nat) : Byte := byteAt c.payload.toList i

/-- R6: the payload check held in bytes 62 and 63. -/
def Cell.payloadOk (c : Cell) : Bool := crc16 (c.payload.toList.take 62) == half (c.byte 62) (c.byte 63)

/-- A cell of this type whose header check passes. -/
def Cell.isA (t : CellType) (c : Cell) : Bool := c.headerOk && c.header.type == t.code

/-- R3, R17: a cell of TYPE 8 to 15 whose header check passes. -/
def Cell.isUnknown (c : Cell) : Bool := c.headerOk && decide (8 ≤ c.header.type.toNat)

/-- A header with this TYPE and CONTEXT and its computed HCHK, CLASS and DEST zero (R3). -/
def Header.build (t : CellType) (context : BitVec 40) : Header :=
  let h : Header := { type := t.code, cls := 0, dest := 0, context := context, hchk := 0 }
  { h with hchk := crc8 h.bytes7 }

/-- A payload of 62 bytes (zero filled) and its payload check (R6). -/
def checkedPayload (body : List Byte) : Payload :=
  payloadOf (padTo 62 body ++ bytes16 (crc16 (padTo 62 body)))

/-- R195, R193: the kind of bus result the loader can meet: a transfer brings 1 to 32 bytes. -/
def BusResult.possible : BusResult → Bool
  | .success bytes => decide (1 ≤ bytes.length) && decide (bytes.length ≤ 32)
  | .noAck => true
  | .arbitrationLost => true

end Sys2Proof
end

