-- ==== Sys2Proof/WellFormed.lean ====
section
/-! DEFINITION. Which terms of `Instr` are commands of the table at all: a row of a received cell carries a cell of that
row's kind (R16 to R19), and a transfer of the boot bus brings 1 to 32 bytes (R196). -/

namespace Sys2Proof

/-- The command is an event of its row. -/
def Instr.wellFormed : Instr → Bool
  | .dataUReceived _ c => c.isA .dataU
  | .dataMReceived _ c => c.isA .dataM
  | .flowReceived _ c => c.isA .flow
  | .mgmtReceived _ c => c.isA .mgmt
  | .syncReceived _ c _ => c.isA .sync
  | .idleReceived _ c => c.isA .idle
  | .markerReceived _ c => c.isA .marker
  | .testReceived _ c => c.isA .test
  | .damagedCellReceived _ c => !c.headerOk
  | .unknownTypeReceived _ c => c.isUnknown
  | .busTransferEnd r => r.possible
  | .elementReset _ _ | .resetNLow => true
  | .signalLost _ | .signalRestored _ | .alignmentGained _ | .alignmentLost _ => true
  | .storageUpset _ => true
  | .blankTimerExpiry _ | .lossTimerExpiry _ | .gapTimerExpiry => true
  | .timerBoundary | .holdoverBoundary => true
  | .epochInRisingEdge _ | .epochInFallingEdge | .stuckTimerExpiry | .epochOutFall => true
  | .linkBoundaryWork _ | .flapClear _ | .drainLimit _ | .holdDownEnd _ => true
  | .commitBoundary | .refresh | .noticeBoundary => true
  | .walkExamination | .checkCompletion => true
  | .flushRemoval _ | .flushCompletion _ | .transmitReady _ => true
  | .read | .readClear | .write | .writeConfig | .writePortMap | .writeStage | .writeActive | .writeMasks => true
  | .commit | .commitNow | .cancelCommit | .linkEnable | .linkDisableNow | .linkDisableDrain | .linkTest => true
  | .setEpoch | .closeConfig | .softReset | .echo | .unknownCommand => true
  | .transferRepeat => true

end Sys2Proof
end

