-- ==== Sys2Proof/Config.lean ====
section
/-! DEFINITION. What the manual fixes for every EB6400. It leaves no value of an operation open, so there is no free value here. -/

namespace Sys2Proof.Config

/-- R90: the cell buffer has 4096 slots. -/
def slotCount : Nat := 4096

/-- R92: the queue manager has 8192 descriptors. -/
def descriptorCount : Nat := 8192

/-- R93, R95: no output queue holds more than 1024 descriptors. -/
def queueBound : Nat := 1024

/-- R138: a control queue holds 0 to 4 cells. -/
def controlBound : Nat := 4

/-- R164: the request queue holds 0 to 8 entries. -/
def requestBound : Nat := 8

/-- R72, R85: a route set has 120 Destination and 512 Group entries, 632 positions. -/
def routePositions : Nat := 632

/-- R177: the device code. -/
def deviceCode : Half := 0x6400

/-- R177: the silicon revision. -/
def revision : Byte := 1

/-- R196: the arbitration-loss run that is a boot failure. -/
def arbitrationLimit : Nat := 8

end Sys2Proof.Config
end

