-- ==== Sys2Proof/Machine/Blocks.lean ====
section
/-! DEFINITION. The state of each block of the element (spec/00_scope.md, Block diagram), as plain data, and the values it
takes at element reset. -/

namespace Sys2Proof.Machine

/-! ## Link units (spec/02_fabric_links.md) -/

/-- R21: the eight link states. -/
inductive LinkState where
  | off
  | blank
  | seek
  | qualify
  | up
  | draining
  | fault
  | test
  deriving DecidableEq, Repr

/-- R21: the codes reported in LINK_STATUS. -/
def LinkState.code : LinkState → Byte
  | .off => 0
  | .blank => 1
  | .seek => 2
  | .qualify => 3
  | .up => 4
  | .draining => 5
  | .fault => 6
  | .test => 7

/-- UP or DRAINING: the states in which a link carries traffic. -/
def LinkState.inService : LinkState → Bool
  | .up | .draining => true
  | .off | .blank | .seek | .qualify | .fault | .test => false

/-- R40: the causes of a fault. -/
inductive FaultCause where
  | los
  | alignLost
  | errorRate
  | remote
  | miswire
  deriving DecidableEq, Repr

/-- R41: the codes of the causes. -/
def FaultCause.code : FaultCause → Byte
  | .los => 1
  | .alignLost => 2
  | .errorRate => 3
  | .remote => 4
  | .miswire => 5

/-- R41: the last-fault record, when it is present. -/
structure FaultRecord where
  cause : FaultCause
  epoch : Half
  deriving DecidableEq, Repr

/-- R46: the test checker; a stopped checker is unseeded (R47). -/
inductive Checker where
  | unseeded
  | tracking (generator : BitVec 31) (streak : Nat)
  deriving DecidableEq, Repr

/-- The state of one link unit. A stopped timer or count is `none`; a running timer holds the microseconds left to it. -/
structure LinkUnit where
  state       : LinkState
  signal      : Bool
  aligned     : Bool
  blankTimer  : Option Nat
  lossTimer   : Option Nat
  qualRun     : Nat
  mismatchRun : Nat
  qualified   : Bool
  errorCount  : Nat
  markerRun   : Nat
  drainCount  : Nat
  upCount     : Nat
  upRising    : Bool
  /-- R36: LINK_BOUNDARY_WORK has found the up count at FLAP_CLEAR and FLAP_CLEAR has not yet been taken. -/
  flapDue     : Bool
  holdDown    : Option Nat
  flapCount   : Nat
  lastFault   : Option FaultRecord
  /-- R12: the last 31 bits of the pattern generator's sequence, the newest in bit 0. -/
  generator   : BitVec 31
  checker     : Checker
  deriving DecidableEq, Repr

/-- R47: a link unit after element reset. -/
def LinkUnit.reset : LinkUnit :=
  { state := .off, signal := false, aligned := false, blankTimer := none, lossTimer := none, qualRun := 0, mismatchRun := 0,
    qualified := false, errorCount := 0, markerRun := 0, drainCount := 0, upCount := 0, upRising := false, flapDue := false,
    holdDown := none, flapCount := 0, lastFault := none, generator := BitVec.allOnes 31, checker := .unseeded }

/-- R22: in lock. -/
def LinkUnit.inLock (u : LinkUnit) : Bool := u.signal && u.aligned

/-- R24: RECOVERY. -/
inductive Recovery where
  | manual
  | auto
  deriving DecidableEq, Repr

/-- R24, R44: what a link in FAULT sends. -/
inductive Squelch where
  | idle
  | marker
  | silent
  deriving DecidableEq, Repr

/-- R24: one Port Map entry. -/
structure PortMapEntry where
  expectId    : Byte
  expectLink  : Byte
  mgmtAllowed : Bool
  recovery    : Recovery
  squelch     : Squelch
  holdDown    : Byte
  flapLimit   : Byte
  errorLimit  : Byte
  creditMax   : Byte
  drainLimit  : Byte
  deriving DecidableEq, Repr

/-- R24: the defaults (255 is ANY). -/
def PortMapEntry.reset : PortMapEntry :=
  { expectId := 255, expectLink := 255, mgmtAllowed := true, recovery := .auto, squelch := .idle, holdDown := 8,
    flapLimit := 4, errorLimit := 16, creditMax := 64, drainLimit := 32 }

/-! ## Queues, credits and schedulers of one link (05, 06, 07) -/

/-- R93, R106, R109: the four output queues of a link, each the slot numbers its descriptors name, oldest first; their XOFF
flags; and the flush-in-progress flag. -/
structure LinkQueues where
  lists    : Vector (List Nat) 4
  xoff     : Vector Bool 4
  flushing : Bool
  deriving DecidableEq, Repr

/-- R114. -/
def LinkQueues.reset : LinkQueues :=
  { lists := Vector.replicate 4 [], xoff := Vector.replicate 4 false, flushing := false }

/-- R38: the total length of the link's four output queues. -/
def LinkQueues.total (q : LinkQueues) : Nat :=
  q.lists[0].length + q.lists[1].length + q.lists[2].length + q.lists[3].length

/-- R126: the granted count G and the sent count S of each class. -/
structure LinkCredit where
  granted : Vector Byte 4
  sent    : Vector Byte 4
  deriving DecidableEq, Repr

/-- R130: both counts 0 in every class. -/
def LinkCredit.zero : LinkCredit := { granted := Vector.replicate 4 0, sent := Vector.replicate 4 0 }

/-- R126: the available credit A = (G − S) mod 256. -/
def LinkCredit.available (k : LinkCredit) (c : ClassId) : Byte := k.granted[c] - k.sent[c]

/-- R142: the round-robin position, one of the classes 1, 2 and 3. -/
inductive RoundRobin where
  | one
  | two
  | three
  deriving DecidableEq, Repr

/-- The class at which the round robin stands. -/
def RoundRobin.toClass : RoundRobin → ClassId
  | .one => 1
  | .two => 2
  | .three => 3

/-- R142: the next class in the cycle 1, 2, 3, 1. -/
def RoundRobin.next : RoundRobin → RoundRobin
  | .one => .two
  | .two => .three
  | .three => .one

/-- R138: a control queue holds responses and notices. -/
inductive ControlKind where
  | response
  | notice
  deriving DecidableEq, Repr

/-- R138: a cell of a control queue, complete when it is placed. -/
structure ControlCell where
  kind : ControlKind
  cell : Cell
  deriving DecidableEq, Repr

/-- The state of one link's scheduler. -/
structure Scheduler where
  position : RoundRobin
  grant    : Nat
  control  : List ControlCell
  deriving DecidableEq, Repr

/-- R147. -/
def Scheduler.reset : Scheduler := { position := .one, grant := 8, control := [] }

/-- R176: the per-link counters but TEST_ERRORS, which is 16 bits wide and is held apart. -/
inductive LinkCounter where
  | rxCells
  | txCells
  | headerErrors
  | payloadErrors
  | badType
  | notUp
  | unknownDest
  | unreachable
  | routeCheckDiscards
  | queueLimit
  | bufferFull
  | mcastCopyLoss
  | mcastCopyDrop
  | flushed
  | creditRejects
  deriving DecidableEq, Repr

/-- R176: the index of a per-link counter. -/
def LinkCounter.index : LinkCounter → Fin 15
  | .rxCells => 0
  | .txCells => 1
  | .headerErrors => 2
  | .payloadErrors => 3
  | .badType => 4
  | .notUp => 5
  | .unknownDest => 6
  | .unreachable => 7
  | .routeCheckDiscards => 8
  | .queueLimit => 9
  | .bufferFull => 10
  | .mcastCopyLoss => 11
  | .mcastCopyDrop => 12
  | .flushed => 13
  | .creditRejects => 14

/-- Everything the element keeps for one link. -/
structure Port where
  unit        : LinkUnit
  map         : PortMapEntry
  queues      : LinkQueues
  credit      : LinkCredit
  sched       : Scheduler
  /-- R118: FLOW-due. -/
  flowDue     : Bool
  /-- R176: LINK_UP, FAULT, FLAP_LIMIT, CREDIT_ERROR, DRAIN_TIMEOUT in bits 0 to 4. -/
  flags       : BitVec 5
  counters    : Vector (BitVec 32) 15
  testErrors  : BitVec 16
  /-- R135: the cell in the transmitter; none while the lane is silent. -/
  transmitter : Option Cell
  /-- R152: epoch boundaries delivered to the link unit and not yet handled. -/
  boundaries  : Nat
  /-- R195: the boot loader's enable mark. -/
  enableMark  : Bool
  deriving DecidableEq, Repr

/-- One link after element reset (R47, R114, R133, R134, R147, R190, R191), no cell having been handed to its transmitter. -/
def Port.reset : Port :=
  { unit := LinkUnit.reset, map := PortMapEntry.reset, queues := LinkQueues.reset, credit := LinkCredit.zero,
    sched := Scheduler.reset, flowDue := false, flags := 0, counters := Vector.replicate 15 0, testErrors := 0,
    transmitter := none, boundaries := 0, enableMark := false }

/-! ## Route store and commit unit (03, 04) -/

/-- R49, R52: a stored Destination entry; `intact` says that its contents and its internal check code agree. -/
structure DestEntry where
  contents : DestContents
  intact   : Bool
  deriving DecidableEq, Repr

/-- R49, R52: a stored Group entry. -/
structure GroupEntry where
  contents : GroupContents
  intact   : Bool
  deriving DecidableEq, Repr

/-- R49: an invalid entry holds no members. -/
def destInvalid : DestContents := { valid := false, count := 0, members := Vector.replicate 4 0 }

/-- R49: an invalid entry holds no members and no ECHO setting. -/
def groupInvalid : GroupContents := { valid := false, echo := false, count := 0, members := Vector.replicate 32 0 }

/-- R49: one Destination Table and one Group Table. -/
structure RouteSet where
  dest  : Vector DestEntry 120
  group : Vector GroupEntry 512
  deriving DecidableEq, Repr

/-- R69: every entry intact and invalid. -/
def RouteSet.reset : RouteSet :=
  { dest := Vector.replicate 120 { contents := destInvalid, intact := true },
    group := Vector.replicate 512 { contents := groupInvalid, intact := true } }

/-- R49, R57, R58: the three sets, and for ACTIVE the bad marks and the spray pointers. -/
structure RouteStore where
  stageA   : RouteSet
  stageB   : RouteSet
  active   : RouteSet
  destBad  : Vector Bool 120
  groupBad : Vector Bool 512
  pointer  : Vector (Fin 4) 120
  deriving DecidableEq, Repr

/-- R69. -/
def RouteStore.reset : RouteStore :=
  { stageA := RouteSet.reset, stageB := RouteSet.reset, active := RouteSet.reset, destBad := Vector.replicate 120 false,
    groupBad := Vector.replicate 512 false, pointer := Vector.replicate 120 0 }

/-- R70: the stage a commit selects. -/
inductive Stage where
  | a
  | b
  deriving DecidableEq, Repr

/-- R72, R85: a position of the walk or of the scrub, as the entry that stands there. -/
inductive RoutePos where
  | dest (d : Dcn)
  | group (g : GroupId)
  deriving DecidableEq, Repr

/-- R70: what a commit in progress holds; a NOW commit holds target 0. -/
structure CommitRequest where
  stage  : Stage
  now    : Bool
  target : Half
  deriving DecidableEq, Repr

/-- R70, R72: the commit state; in CHECKING with the walk position and, once an examination has failed, the failing entry. -/
inductive CommitState where
  | idle
  | checking (request : CommitRequest) (position : Nat) (failing : Option RoutePos)
  | armed (request : CommitRequest)
  deriving DecidableEq, Repr

/-- R82: the outcomes of a commit. -/
inductive CommitOutcome where
  | done
  | checkFailed (entry : RoutePos)
  | late
  | abandoned
  | cancelled
  deriving DecidableEq, Repr

/-- R83: the last-commit record, when it is present. -/
structure CommitRecord where
  request : CommitRequest
  outcome : CommitOutcome
  epoch   : Half
  deriving DecidableEq, Repr

/-- R152: a boundary as it is delivered, with the new value of E and the LOST indication. -/
structure Boundary where
  epoch : Half
  lost  : Bool
  deriving DecidableEq, Repr

/-- The state of the commit unit (its bad marks stand in the route store). -/
structure CommitUnit where
  state      : CommitState
  record     : Option CommitRecord
  scrub      : Fin 632
  /-- R152: epoch boundaries delivered to the commit unit and not yet handled, oldest first. -/
  boundaries : List Boundary
  deriving DecidableEq, Repr

/-- R88. -/
def CommitUnit.reset : CommitUnit := { state := .idle, record := none, scrub := 0, boundaries := [] }

/-! ## Cell buffer (05) -/

/-- R90, R91: an occupied slot: its number, the cell it holds and its reference count. -/
structure Slot where
  id   : Nat
  cell : Cell
  refs : Nat
  deriving DecidableEq, Repr

/-- R90, R92, R108: the occupied slots in rising order of number, F, D and the global congestion flag. -/
structure CellBuffer where
  slots     : List Slot
  free      : Nat
  freeDesc  : Nat
  congested : Bool
  deriving DecidableEq, Repr

/-- R114. -/
def CellBuffer.reset : CellBuffer :=
  { slots := [], free := Config.slotCount, freeDesc := Config.descriptorCount, congested := false }

/-! ## Flow unit (06) -/

/-- R120, R121: the gap timer (none when idle) and map-change-pending. -/
structure FlowUnit where
  gapTimer   : Option Nat
  mapPending : Bool
  /-- R152: epoch boundaries delivered to the flow unit and not yet handled. -/
  boundaries : Nat
  deriving DecidableEq, Repr

/-- R133. -/
def FlowUnit.reset : FlowUnit := { gapTimer := none, mapPending := false, boundaries := 0 }

/-! ## Epoch unit (08) -/

/-- R151: the sync states. -/
inductive SyncState where
  | free
  | acquiring
  | locked
  | holdover
  | lost
  deriving DecidableEq, Repr

/-- R9, R161: the codes of the sync states. -/
def SyncState.code : SyncState → Byte
  | .free => 0
  | .acquiring => 1
  | .locked => 2
  | .holdover => 3
  | .lost => 4

/-- R158: the pin monitor; in HIGH with the microseconds left to its stuck timer. -/
inductive PinMonitor where
  | low
  | high (stuckTimer : Nat)
  | stuck
  deriving DecidableEq, Repr

/-- The state of the epoch unit. -/
structure EpochUnit where
  count     : Half
  sync      : SyncState
  /-- R151: microseconds since the most recent boundary. -/
  window    : Nat
  /-- R149: P, in microseconds, as fixed for the interval in progress. -/
  period    : Nat
  /-- R149: the tolerance in force, as fixed for the interval in progress. -/
  tol       : Nat
  missRun   : Nat
  pending   : Option Half
  monitor   : PinMonitor
  /-- The level of the EPOCH_IN pin. -/
  pinHigh   : Bool
  /-- R154: EPOCH_OUT: none while low, the microseconds left to its pulse while high. -/
  out       : Option Nat
  deriving DecidableEq, Repr

/-- R162, with the level that stands on EPOCH_IN. -/
def EpochUnit.reset (pinHigh : Bool) : EpochUnit :=
  { count := 0, sync := .free, window := 0, period := 128, tol := 4, missRun := 0, pending := none, monitor := .low,
    pinHigh := pinHigh, out := none }

/-! ## Management agent (09) -/

/-- R168. -/
inductive Phase where
  | config
  | run
  deriving DecidableEq, Repr

/-- R164: an entry of the request queue. -/
structure Request where
  link    : LinkId
  body    : Vector Byte 62
  context : BitVec 40
  deriving DecidableEq, Repr

/-- R165: why a request was discarded. -/
inductive DiscardReason where
  | notAllowed
  | notTarget
  | queueFull
  deriving DecidableEq, Repr

/-- R165: the codes of the reasons. -/
def DiscardReason.code : DiscardReason → Byte
  | .notAllowed => 1
  | .notTarget => 2
  | .queueFull => 3

/-- R174: the indices of the configuration parameters. -/
inductive Param where
  | alpha (c : ClassId)
  | xoffHi (c : ClassId)
  | xoffLo (c : ClassId)
  | weight (k : RoundRobin)
  | fPanic
  | fResume
  | epochSource
  | epochPeriod
  | epochTol
  | syncLink
  | qualifyCount
  | losIntegration
  | blankTime
  | flowGap
  | flapClear
  | squelchMode
  | noticeLink
  | scrubRate
  | alarmSource
  deriving DecidableEq, Repr

/-- R174: the index of each parameter. -/
def Param.index : Param → Fin 30
  | .alpha 0 => 0
  | .alpha 1 => 1
  | .alpha 2 => 2
  | .alpha 3 => 3
  | .xoffHi 0 => 4
  | .xoffHi 1 => 5
  | .xoffHi 2 => 6
  | .xoffHi 3 => 7
  | .xoffLo 0 => 8
  | .xoffLo 1 => 9
  | .xoffLo 2 => 10
  | .xoffLo 3 => 11
  | .weight .one => 12
  | .weight .two => 13
  | .weight .three => 14
  | .fPanic => 15
  | .fResume => 16
  | .epochSource => 17
  | .epochPeriod => 18
  | .epochTol => 19
  | .syncLink => 20
  | .qualifyCount => 21
  | .losIntegration => 22
  | .blankTime => 23
  | .flowGap => 24
  | .flapClear => 25
  | .squelchMode => 26
  | .noticeLink => 27
  | .scrubRate => 28
  | .alarmSource => 29

/-- R174: the parameters, each a 16-bit value at its index. -/
abbrev Params := Vector Half 30

/-- The value of a parameter as a number. -/
def paramValue (p : Params) (k : Param) : Nat := p[k.index].toNat

/-- R174: the defaults. -/
def Params.reset : Params :=
  #v[5, 4, 3, 2, 192, 192, 192, 192, 96, 96, 96, 96, 8, 4, 2, 256, 512, 0, 15, 4, 0, 16, 1, 3, 8, 1024, 3, 255, 16, 255]

/-- The state of the management agent (its Port Map stands in the ports). -/
structure Agent where
  phase       : Phase
  params      : Params
  requests    : List Request
  lastDiscard : Option (DiscardReason × LinkId)
  identity    : BitVec 6
  deriving DecidableEq, Repr

/-- R180. -/
def Agent.reset (id : BitVec 6) : Agent :=
  { phase := .config, params := Params.reset, requests := [], lastDiscard := none, identity := id }

/-! ## Notice unit and element counters (10) -/

/-- R181: the reset kind. -/
inductive ResetKind where
  | none
  | element
  | soft
  deriving DecidableEq, Repr

/-- R15: the codes of the reset kinds. -/
def ResetKind.code : ResetKind → Byte
  | .none => 0
  | .element => 1
  | .soft => 2

/-- R15: the element flags, in the bit order of the notice. -/
inductive ElementFlag where
  | resetSeen
  | bootFail
  | bootRecordError
  | epochEarly
  | epochMissed
  | epochLost
  | epochJump
  | pinStuck
  | routeCheck
  | commitDone
  | commitFailed
  | stageBusyWrite
  | bufferExhausted
  | poolExhausted
  | globalCongestion
  | mgmtDiscard
  deriving DecidableEq, Repr

/-- R15: the bit of each element flag. -/
def ElementFlag.bit : ElementFlag → Nat
  | .resetSeen => 0
  | .bootFail => 1
  | .bootRecordError => 2
  | .epochEarly => 3
  | .epochMissed => 4
  | .epochLost => 5
  | .epochJump => 6
  | .pinStuck => 7
  | .routeCheck => 8
  | .commitDone => 9
  | .commitFailed => 10
  | .stageBusyWrite => 11
  | .bufferExhausted => 12
  | .poolExhausted => 13
  | .globalCongestion => 14
  | .mgmtDiscard => 15

/-- R176: the link flags. -/
inductive LinkFlag where
  | linkUp
  | fault
  | flapLimit
  | creditError
  | drainTimeout
  deriving DecidableEq, Repr

/-- R176: the bit of each link flag. -/
def LinkFlag.bit : LinkFlag → Nat
  | .linkUp => 0
  | .fault => 1
  | .flapLimit => 2
  | .creditError => 3
  | .drainTimeout => 4

/-- R176: the element counters. -/
inductive ElementCounter where
  | mgmtDiscards
  | responseDrops
  | epochEarlyCount
  | epochMissedCount
  | routeCheckFound
  | syncWrongLink
  deriving DecidableEq, Repr

/-- R176: the index of an element counter. -/
def ElementCounter.index : ElementCounter → Fin 6
  | .mgmtDiscards => 0
  | .responseDrops => 1
  | .epochEarlyCount => 2
  | .epochMissedCount => 3
  | .routeCheckFound => 4
  | .syncWrongLink => 5

/-- The state of the notice unit (the link flags stand in the ports). -/
structure NoticeUnit where
  flags        : BitVec 16
  resetKind    : ResetKind
  elementMasks : BitVec 16
  linkMasks    : BitVec 5
  pending      : Bool
  /-- R152, R185: the new values of E of the boundaries delivered to the notice unit and not yet handled, oldest first. -/
  boundaries   : List Half
  deriving DecidableEq, Repr

/-- R182, R190: every flag clear but RESET_SEEN with kind ELEMENT, which makes a notice pending. -/
def NoticeUnit.reset : NoticeUnit :=
  { flags := 1, resetKind := .element, elementMasks := 0, linkMasks := 0, pending := true, boundaries := [] }

/-! ## Boot loader (11) -/

/-- R198: the boot states. -/
inductive BootState where
  | checking
  | applying
  | done
  | doneDefault
  deriving DecidableEq, Repr

/-- R198: the codes of the boot states. -/
def BootState.code : BootState → Byte
  | .checking => 1
  | .applying => 2
  | .done => 3
  | .doneDefault => 4

/-- R198: the failure causes. -/
inductive BootCause where
  | none
  | badHeader
  | badCheck
  | noAck
  | arbitration
  deriving DecidableEq, Repr

/-- R198: the codes of the causes. -/
def BootCause.code : BootCause → Byte
  | .none => 0
  | .badHeader => 1
  | .badCheck => 2
  | .noAck => 3
  | .arbitration => 4

/-- R14: the status codes of responses, kept by the loader for its first bad record. -/
inductive Status where
  | ok
  | badCommand
  | badObject
  | badIndex
  | badValue
  | phase
  | busy
  | late
  | notActive
  | readOnly
  deriving DecidableEq, Repr

/-- R14: the codes. -/
def Status.code : Status → Byte
  | .ok => 0
  | .badCommand => 1
  | .badObject => 2
  | .badIndex => 3
  | .badValue => 4
  | .phase => 5
  | .busy => 6
  | .late => 7
  | .notActive => 8
  | .readOnly => 9

/-- R196: the loader's place on the boot bus. -/
inductive Bus where
  | idle
  | transferring
  | waiting
  deriving DecidableEq, Repr

/-- The state of the boot loader (its enable marks stand in the ports). -/
structure BootLoader where
  state       : BootState
  bootSel     : Bool
  arbRun      : Nat
  length      : Nat
  recordCount : Nat
  taken       : Nat
  refused     : Nat
  firstBad    : Option (Nat × Status)
  cause       : BootCause
  failInApply : Bool
  /-- R194, R195: the image bytes of the present pass taken so far. -/
  image       : List Byte
  /-- R195: the image byte at which the next record begins, and its index. -/
  offset      : Nat
  recordIndex : Nat
  bus         : Bus
  deriving DecidableEq, Repr

/-- R191: CHECKING with its first transfer begun when BOOT_SEL was sampled high, DONE_DEFAULT when it was low. -/
def BootLoader.reset (bootSel : Bool) : BootLoader :=
  { state := if bootSel then .checking else .doneDefault, bootSel := bootSel, arbRun := 0, length := 0, recordCount := 0,
    taken := 0, refused := 0, firstBad := none, cause := .none, failInApply := false, image := [], offset := 0,
    recordIndex := 0, bus := if bootSel then .transferring else .idle }

end Sys2Proof.Machine
end

