-- ==== Sys2Proof/Machine/State.lean ====
section
/-! DEFINITION. The state of the element: every block's state and the queue of commands that wait; the reasons a step can
stop (none); and the state after reset. -/

namespace Sys2Proof.Machine

/-- The state of one EB6400. -/
structure State where
  /-- R191: RESET_N is low. -/
  inReset         : Bool
  ports           : Vector Port 64
  routes          : RouteStore
  commit          : CommitUnit
  buffer          : CellBuffer
  flow            : FlowUnit
  epoch           : EpochUnit
  agent           : Agent
  notice          : NoticeUnit
  elementCounters : Vector (BitVec 32) 6
  boot            : BootLoader
  /-- The commands that wait, first in, first out. -/
  pending         : List Instr
  deriving DecidableEq, Repr

/-- No rule of the spec stops the element, so there is no fault. -/
inductive Fault where
  deriving DecidableEq, Repr

/-- The reasons for which a command has no meaning in this model. -/
inductive Refusal where
  /-- Raised by `exec` alone, for a row of the table whose meaning is not written yet; no arm raises it now. Safe: the model
  stops where the hardware goes on. -/
  | notModelled (mnemonic : String)
  deriving DecidableEq, Repr

/-- Every block at the element-reset values of its own chapter (R191): all links in OFF, and the boot loader as BOOT_SEL
was sampled. -/
def State.afterReset (bootSel : Bool) (id : BitVec 6) (pinHigh : Bool) (pending : List Instr) : State :=
  { inReset := false, ports := Vector.replicate 64 Port.reset, routes := RouteStore.reset, commit := CommitUnit.reset,
    buffer := CellBuffer.reset, flow := FlowUnit.reset, epoch := EpochUnit.reset pinHigh, agent := Agent.reset id,
    notice := NoticeUnit.reset, elementCounters := Vector.replicate 6 0, boot := BootLoader.reset bootSel, pending := pending }

/-- The element right after the reset event, with BOOT_SEL sampled high, identity 0 and EPOCH_IN low (DESIGN CHOICE of the
samples, log entry 7): every block holds exactly the element-reset values of its chapter, and the loader begins pass one. -/
def State.reset : State := State.afterReset true 0 false []

end Sys2Proof.Machine
end

