-- ==== Sys2Proof/Machine/Ops.lean ====
section
/-! DEFINITION. The named operations every block uses: reading and changing the state of one link, reading a configuration
parameter, counting (R189), and doing nothing while the element is held in reset (R191). -/

namespace Sys2Proof.Machine

/-- The state kept for one link. -/
def State.port (s : State) (l : LinkId) : Port := s.ports[l]

/-- The state of one link replaced. -/
def State.setPort (s : State) (l : LinkId) (p : Port) : State := { s with ports := s.ports.set l p }

/-- The state of one link changed. -/
def State.modPort (s : State) (l : LinkId) (f : Port → Port) : State := s.setPort l (f (s.port l))

/-- The state of every link changed alike. -/
def State.mapPorts (s : State) (f : Port → Port) : State := { s with ports := s.ports.map f }

/-- The link unit of one link changed. -/
def State.modUnit (s : State) (l : LinkId) (f : LinkUnit → LinkUnit) : State :=
  s.modPort l fun p => { p with unit := f p.unit }

/-- A command's effect on the element: nothing while RESET_N holds it in reset (R191). -/
def act (f : State → State) (s : State) : Host.Outcome State Fault Refusal := .next (if s.inReset then s else f s)

/-- The value of a configuration parameter (R174). -/
def State.param (s : State) (k : Param) : Nat := paramValue s.agent.params k

/-- R189: a per-link counter counts 1. -/
def Port.count (p : Port) (k : LinkCounter) : Port :=
  { p with counters := p.counters.set k.index (countUp p.counters[k.index]) }

/-- R189: a counter of one link counts 1. -/
def State.countLink (s : State) (l : LinkId) (k : LinkCounter) : State := s.modPort l fun p => p.count k

/-- R189: an element counter counts 1. -/
def State.countElement (s : State) (k : ElementCounter) : State :=
  { s with elementCounters := s.elementCounters.set k.index (countUp s.elementCounters[k.index]) }

/-- R189: TEST_ERRORS of one link counts 1. -/
def Port.countTestError (p : Port) : Port := { p with testErrors := countUp p.testErrors }

/-- An element counter counts n times. -/
def State.countElementTimes (s : State) (k : ElementCounter) : Nat → State
  | 0 => s
  | n + 1 => (s.countElement k).countElementTimes k n

end Sys2Proof.Machine
end

