-- ==== Sys2Proof/Machine/Flags.lean ====
section
/-! DEFINITION. Latched flags, masks and ALARM_N (spec/10_flags_notices_and_counters.md). -/

namespace Sys2Proof.Machine

/-- R181: an element flag stands latched. -/
def State.elementFlag (s : State) (f : ElementFlag) : Bool := s.notice.flags.getLsbD f.bit

/-- R181: a link flag of one link stands latched. -/
def State.linkFlag (s : State) (l : LinkId) (f : LinkFlag) : Bool := (s.port l).flags.getLsbD f.bit

/-- R184: a notice is made pending. -/
def State.setNoticePending (s : State) : State := { s with notice := { s.notice with pending := true } }

/-- R181, R184: an element flag latches; going from clear to latched with its mask clear makes a notice pending. -/
def State.latch (s : State) (f : ElementFlag) : State :=
  { s with notice := { s.notice with
      flags := setBitAt s.notice.flags f.bit
      pending := s.notice.pending || (!s.notice.flags.getLsbD f.bit && !s.notice.elementMasks.getLsbD f.bit) } }

/-- R181, R184: a link flag of one link latches; going from clear to latched with its kind's mask clear makes a notice
pending. -/
def State.latchLink (s : State) (l : LinkId) (f : LinkFlag) : State :=
  let was := s.linkFlag l f
  let t := s.modPort l fun p => { p with flags := setBitAt p.flags f.bit }
  if !was && !s.notice.linkMasks.getLsbD f.bit then t.setNoticePending else t

/-- R188: under SUMMARY, an unmasked flag stands latched. -/
def State.unmaskedLatched (s : State) : Bool :=
  (s.notice.flags &&& ~~~s.notice.elementMasks) != 0 ||
  allLinks.any fun l => ((s.port l).flags &&& ~~~s.notice.linkMasks) != 0

/-- R188: the link whose state ALARM_N follows, or none under SUMMARY. -/
def State.alarmLink (s : State) : Option LinkId :=
  if h : s.param .alarmSource < 64 then some ⟨s.param .alarmSource, h⟩ else none

/-- R188, R191: the level of ALARM_N, true when high (not asserted). -/
def State.alarmN (s : State) : Bool :=
  if s.inReset then false
  else match s.alarmLink with
    | some l => (s.port l).unit.state == .up
    | none => !s.unmaskedLatched

/-- R154, R191: the level of EPOCH_OUT, true when high. -/
def State.epochOut (s : State) : Bool := s.epoch.out.isSome

end Sys2Proof.Machine
end

