-- ==== Sys2Proof/Machine/Flow.lean ====
section
/-! DEFINITION. The flow unit: change notices, the gap timer and the refresh (R119 to R124), and the XOFF and global
congestion evaluations that give change notices (R106 to R108). -/

namespace Sys2Proof.Machine

/-- FLOW-due set on a link in UP or DRAINING. -/
def Port.markFlowDue (p : Port) : Port := if p.unit.state.inService then { p with flowDue := true } else p

/-- R120, R121, R123: FLOW-due set on every link in UP or DRAINING. -/
def State.markFlowDue (s : State) : State := s.mapPorts Port.markFlowDue

/-- R122: the gap timer starts for FLOW_GAP microseconds. -/
def State.startGap (s : State) : State := { s with flow := { s.flow with gapTimer := some (s.param .flowGap) } }

/-- R120: a change notice. -/
def State.changeNotice (s : State) : State :=
  match s.flow.gapTimer with
  | none => s.markFlowDue.startGap
  | some _ => { s with flow := { s.flow with mapPending := true } }

/-- R121: gap timer expiry; nothing while the timer is idle. -/
def State.gapExpiry (s : State) : State :=
  match s.flow.gapTimer with
  | none => s
  | some _ =>
    if s.flow.mapPending then ({ s with flow := { s.flow with mapPending := false } } : State).markFlowDue.startGap
    else { s with flow := { s.flow with gapTimer := none } }

/-- R123: the refresh, at a boundary that has been delivered to the flow unit. -/
def State.refreshFlow (s : State) : State :=
  match s.flow.boundaries with
  | 0 => s
  | n + 1 => ({ s with flow := { s.flow with boundaries := n } } : State).markFlowDue

/-- R106: the XOFF flag of a queue takes a value; a change is told to the flow unit. -/
def State.setXoff (s : State) (l : LinkId) (c : ClassId) (b : Bool) : State :=
  if (s.port l).queues.xoff[c] = b then s
  else (s.modPort l fun p => { p with queues := { p.queues with xoff := p.queues.xoff.set c b } }).changeNotice

/-- R93: the length Q of an output queue. -/
def State.queueLength (s : State) (l : LinkId) (c : ClassId) : Nat := (s.port l).queues.lists[c].length

/-- R106: the evaluation after an append. -/
def State.xoffAfterAppend (s : State) (l : LinkId) (c : ClassId) : State :=
  if s.param (.xoffHi c) ≤ s.queueLength l c then s.setXoff l c true else s

/-- R106: the evaluation after a removal. -/
def State.xoffAfterRemoval (s : State) (l : LinkId) (c : ClassId) : State :=
  if s.queueLength l c ≤ s.param (.xoffLo c) then s.setXoff l c false else s

/-- R107: the evaluation at a change of the class's thresholds. -/
def State.xoffReevaluate (s : State) (l : LinkId) (c : ClassId) : State :=
  if s.param (.xoffHi c) ≤ s.queueLength l c then s.setXoff l c true
  else if s.queueLength l c ≤ s.param (.xoffLo c) then s.setXoff l c false
  else s

/-- R107: every queue of a class is evaluated anew. -/
def State.xoffReevaluateClass (s : State) (c : ClassId) : State :=
  allLinks.foldl (fun t l => t.xoffReevaluate l c) s

/-- R108: the global congestion flag takes a value; a change is told to the flow unit, and a change to set latches
GLOBAL_CONGESTION. -/
def State.setCongested (s : State) (b : Bool) : State :=
  if s.buffer.congested = b then s
  else
    let t := ({ s with buffer := { s.buffer with congested := b } } : State).changeNotice
    if b then t.latch .globalCongestion else t

/-- R108: the evaluation at a change of F, F_PANIC or F_RESUME. -/
def State.evalCongestion (s : State) : State :=
  if s.buffer.free < s.param .fPanic then s.setCongested true
  else if s.param .fResume ≤ s.buffer.free then s.setCongested false
  else s

end Sys2Proof.Machine
end

