-- ==== Sys2Proof/Machine/Buffer.lean ====
section
/-! DEFINITION. The cell buffer and the output queues (spec/05_cell_buffer_and_output_queues.md): slots and reference
counts, the admission threshold, admission of unicast and multicast cells, and the removal of a descriptor. -/

namespace Sys2Proof.Machine

/-! ## Slots (R90, R91) -/

/-- The occupied slot with this number. -/
def findSlot (slots : List Slot) (id : Nat) : Option Slot := slots.find? fun x => x.id == id

/-- The lowest number from `k` on that no slot of the rising list bears. -/
def lowestFree (k : Nat) : List Slot → Nat
  | [] => k
  | x :: rest => if x.id = k then lowestFree (k + 1) rest else k

/-- A slot put in its place in the rising list. -/
def insertSlot (x : Slot) : List Slot → List Slot
  | [] => [x]
  | y :: rest => if x.id < y.id then x :: y :: rest else y :: insertSlot x rest

/-- R91: the reference count of a slot falls by 1; at 0 the slot is free. -/
def lowerRefs (id : Nat) : List Slot → List Slot
  | [] => []
  | x :: rest =>
    if x.id = id then (if x.refs ≤ 1 then rest else { x with refs := x.refs - 1 } :: rest)
    else x :: lowerRefs id rest

/-- R90: one free slot is taken for a cell; F falls by 1. The lowest free slot is taken (DESIGN CHOICE, log entry 4: which
one is not observable, R90). -/
def CellBuffer.store (b : CellBuffer) (cell : Cell) (refs : Nat) : CellBuffer :=
  { b with slots := insertSlot { id := lowestFree 0 b.slots, cell := cell, refs := refs } b.slots, free := b.free - 1 }

/-- R91: one reference to a slot goes; F rises by 1 when it was the last. -/
def CellBuffer.release (b : CellBuffer) (id : Nat) : CellBuffer :=
  match findSlot b.slots id with
  | none => b
  | some x => { b with slots := lowerRefs id b.slots, free := if x.refs ≤ 1 then b.free + 1 else b.free }

/-! ## Threshold (R94, R95) -/

/-- R95: T = min(1024, max(2, floor(F × 2^a / 8))). -/
def threshold (free alpha : Nat) : Nat := min Config.queueBound (max 2 (free * 2 ^ alpha / 8))

/-- R95: the threshold for a class, from F as it stands. -/
def State.threshold (s : State) (c : ClassId) : Nat := Sys2Proof.Machine.threshold s.buffer.free (s.param (.alpha c))

/-! ## Append (R97, R99) -/

/-- A resolved target: an output link; the class is the cell's (R59). -/
abbrev Target := LinkId

/-- R92: a descriptor naming a slot joins the tail of a queue, D falls by 1, and the queue's XOFF flag is evaluated. -/
def State.append (s : State) (l : LinkId) (c : ClassId) (slot : Nat) : State :=
  let t := s.modPort l fun p =>
    { p with queues := { p.queues with lists := p.queues.lists.set c (p.queues.lists[c] ++ [slot]) } }
  ({ t with buffer := { t.buffer with freeDesc := t.buffer.freeDesc - 1 } } : State).xoffAfterAppend l c

/-- R102: an admission that leaves F or D at 0 latches its flag. -/
def State.latchExhaustion (s : State) : State :=
  let t := if s.buffer.free = 0 then s.latch .bufferExhausted else s
  if t.buffer.freeDesc = 0 then t.latch .poolExhausted else t

/-- R97, R99: a cell is stored once and queued on every admitted target, in order. -/
def State.admitCell (s : State) (c : ClassId) (cell : Cell) (targets : List Target) : State :=
  let slot := lowestFree 0 s.buffer.slots
  let stored : State := { s with buffer := s.buffer.store cell targets.length }
  (targets.foldl (fun t l => t.append l c slot) stored).evalCongestion.latchExhaustion

/-! ## Admission -/

/-- R97, R98: why a target is refused. -/
inductive Refused where
  | bufferFull
  | queueLimit
  deriving DecidableEq, Repr

/-- R100, R101: the arrival link's counter for a reason. -/
def Refused.counter : Refused → LinkCounter
  | .bufferFull => .bufferFull
  | .queueLimit => .queueLimit

/-- R97: the judgement of a unicast cell; none admits it. -/
def State.judgeUnicast (s : State) (c : ClassId) (target : Target) : Option Refused :=
  if s.buffer.free = 0 then some .bufferFull
  else if s.threshold c ≤ s.queueLength target c then some .queueLimit
  else if s.buffer.freeDesc = 0 then some .bufferFull
  else none

/-- R97: admission of a unicast cell. -/
def State.admitUnicast (s : State) (arrival : LinkId) (c : ClassId) (cell : Cell) (target : Target) : State :=
  match s.judgeUnicast c target with
  | some r => s.countLink arrival r.counter
  | none => s.admitCell c cell [target]

/-- R98: how the list of targets stands while it is judged: the targets admitted so far, in order, and the refused ones with
their reasons, in order. -/
structure Judged where
  admitted : List Target
  refused  : List (Target × Refused)
  deriving DecidableEq, Repr

/-- R98: one target judged: its queue counts the targets admitted before it, and so does the pool. -/
def State.judgeTarget (s : State) (c : ClassId) (j : Judged) (target : Target) : Judged :=
  if s.threshold c ≤ s.queueLength target c + j.admitted.count target then
    { j with refused := j.refused ++ [(target, .queueLimit)] }
  else if s.buffer.freeDesc ≤ j.admitted.length then { j with refused := j.refused ++ [(target, .bufferFull)] }
  else { j with admitted := j.admitted ++ [target] }

/-- R98: the whole list judged; with F at 0 every target is refused BUFFER_FULL. -/
def State.judgeTargets (s : State) (c : ClassId) (targets : List Target) : Judged :=
  if s.buffer.free = 0 then { admitted := [], refused := targets.map fun l => (l, .bufferFull) }
  else targets.foldl (s.judgeTarget c) { admitted := [], refused := [] }

/-- R100: each refused target counts once in MCAST_COPY_DROP of its output link. -/
def State.countDrops (s : State) (refused : List (Target × Refused)) : State :=
  refused.foldl (fun t r => t.countLink r.1 .mcastCopyDrop) s

/-- R100: a cell of which no target is admitted counts on its arrival link, by its last target's reason. -/
def State.countWholeLoss (s : State) (arrival : LinkId) (refused : List (Target × Refused)) : State :=
  match refused.getLast? with
  | some r => s.countLink arrival r.2.counter
  | none => s

/-- R98 to R100: admission of a multicast cell. -/
def State.admitMulticast (s : State) (arrival : LinkId) (c : ClassId) (cell : Cell) (targets : List Target) : State :=
  let j := s.judgeTargets c targets
  if j.admitted.isEmpty then (s.countDrops j.refused).countWholeLoss arrival j.refused
  else (s.admitCell c cell j.admitted).countDrops j.refused

/-! ## Removal (R103, R110) -/

/-- R103: steps 1 to 4 of a removal from the head of a queue, `slot` being the head's slot and `rest` what stays queued. -/
def State.removeHead (s : State) (l : LinkId) (c : ClassId) (slot : Nat) (rest : List Nat) : State :=
  let t := s.modPort l fun p => { p with queues := { p.queues with lists := p.queues.lists.set c rest } }
  let b := t.buffer.release slot
  let u : State := { t with buffer := { b with freeDesc := b.freeDesc + 1 } }
  let v := u.xoffAfterRemoval l c
  if b.free = s.buffer.free then v else v.evalCongestion

/-- R103: the cell the head descriptor of a queue names. -/
def State.headCell (s : State) (l : LinkId) (c : ClassId) : Option Cell :=
  match (s.port l).queues.lists[c] with
  | [] => none
  | slot :: _ => (findSlot s.buffer.slots slot).map (·.cell)

end Sys2Proof.Machine
end

