-- ==== Sys2Proof/Machine/Cells.lean ====
section
/-! DEFINITION. The cells the element builds (spec/01_cells.md): IDLE, MARKER, TEST, FLOW with its congestion map, responses
and notices. -/

namespace Sys2Proof.Machine

/-- The element identity as a byte of a cell. -/
def State.identityByte (s : State) : Byte := s.agent.identity.setWidth 8

/-- R9, R144: the element's IDLE cell on a link. -/
def State.idleCell (s : State) (l : LinkId) : Cell :=
  { header := Header.build .idle 0
    payload := checkedPayload ([2, s.identityByte, natByte l.val] ++ bytes16 s.epoch.count ++ [s.epoch.sync.code]) }

/-- R11: a MARKER cell. -/
def markerCell : Cell := { header := Header.build .marker 0, payload := payloadOf [] }

/-! ## The test pattern (R12, R46) -/

/-- R12: the next bit: the exclusive-or of the bits 28 and 31 places before it (the newest bit stands in bit 0). -/
def patternBit (g : BitVec 31) : Bool := g.getLsbD 27 != g.getLsbD 30

/-- The generator's state after a bit. -/
def patternPush (g : BitVec 31) (b : Bool) : BitVec 31 := (g <<< 1) ||| (BitVec.ofBool b).setWidth 31

/-- The next n bits of the sequence. -/
def patternBits : Nat → BitVec 31 → List Bool
  | 0, _ => []
  | n + 1, g => patternBit g :: patternBits n (patternPush g (patternBit g))

/-- The generator's state after n bits. -/
def patternAdvance : Nat → BitVec 31 → BitVec 31
  | 0, g => g
  | n + 1, g => patternAdvance n (patternPush g (patternBit g))

/-- Bytes from a list of bits, each byte's bit 7 first. -/
def bytesOfBits (n : Nat) (bits : List Bool) : List Byte :=
  (List.range n).map fun k => byteOfBits ((bits.drop (8 * k)).take 8)

/-- R12: the payload that carries the next 512 bits. -/
def patternPayload (g : BitVec 31) : Payload := payloadOf (bytesOfBits 64 (patternBits 512 g))

/-- R12: the TEST cell a generator gives next. -/
def testCell (g : BitVec 31) : Cell := { header := Header.build .test 0, payload := patternPayload g }

/-- R46: the last 31 bits of a payload, as a generator's state. -/
def patternSeed (c : Cell) : BitVec 31 :=
  ((c.byte 60 ++ c.byte 61 ++ c.byte 62 ++ c.byte 63 : BitVec 32)).setWidth 31

/-! ## The congestion map (R116, R117, R8) -/

/-- R117: the link a member byte names; a value above 63 names none. -/
def linkOfByte (b : Byte) : Option LinkId := if h : b.toNat < 64 then some ⟨b.toNat, h⟩ else none

/-- R59: a link is live while it is in UP. -/
def State.isUp (s : State) (l : LinkId) : Bool := (s.port l).unit.state == .up

/-- R50, R117: the links that the member places of stored contents name: at most four places, and no more than COUNT. -/
def destLinks (e : DestContents) : List LinkId :=
  (e.members.toList.take (min 4 e.count.toNat)).filterMap linkOfByte

/-- R116: the bit for (d, c), true for XOFF. -/
def State.mapBit (s : State) (d : Dcn) (c : ClassId) : Bool :=
  let e := s.routes.active.dest[d].contents
  !e.valid || s.routes.destBad[d] ||
  !(destLinks e).any s.isUp ||
  (destLinks e).any (fun l => s.isUp l && (s.port l).queues.xoff[c]) ||
  (c != 0 && s.buffer.congested)

/-- R8: the 480 bits, by DCN ascending and within a DCN by class. -/
def State.mapBits (s : State) : List Bool := (List.finRange 120).flatMap fun d => allClasses.map fun c => s.mapBit d c

/-- R118: the FLOW cell built from the state as it stands. -/
def State.flowCell (s : State) : Cell :=
  { header := Header.build .flow 0, payload := checkedPayload (bytes16 s.epoch.count ++ bytesOfBits 60 s.mapBits) }

/-! ## Responses and notices (R14, R15) -/

/-- R14, R167: the response to a request. -/
def State.responseCell (s : State) (context : BitVec 40) (tag command : Byte) (status : Status) (index : Half)
    (count arg : Byte) (data : List Byte) : Cell :=
  { header := Header.build .mgmt context
    payload := checkedPayload
      ([s.identityByte, tag, command, status.code] ++ bytes16 index ++ [count, arg] ++ padTo 54 data) }

/-- R15: the link set, link 63 first. -/
def State.linkSet (s : State) : List Bool := allLinks.reverse.map fun l => (s.port l).flags != 0

/-- R15, R185: the notice built at the boundary that gave E the value `epoch`. -/
def State.noticeCell (s : State) (epoch : Half) : Cell :=
  { header := Header.build .mgmt 0
    payload := checkedPayload
      ([s.identityByte, 0, 0x80, 0] ++ bytes16 epoch ++ [0, 0] ++ bytes16 s.notice.flags ++ [s.notice.resetKind.code] ++
        bytesOfBits 8 s.linkSet) }

end Sys2Proof.Machine
end

