-- ==== Sys2Proof/Machine/Links.lean ====
section
/-! DEFINITION. The link units (spec/02_fabric_links.md): entries to BLANK, UP, FAULT and OFF, the flush request and its
completion, the reports of the classifier, the receiver events and timers, and the boundary work. -/

namespace Sys2Proof.Machine

/-! ## Control queues and flushes -/

/-- R139: a link that leaves UP or DRAINING for OFF or FAULT: its control queue is emptied, each response counts in
RESPONSE_DROPS, and a discarded notice is made pending again. -/
def State.emptyControl (s : State) (l : LinkId) : State :=
  let cells := (s.port l).sched.control
  let t := s.modPort l fun p => { p with sched := { p.sched with control := [] } }
  let u := t.countElementTimes .responseDrops (cells.countP fun x => x.kind == .response)
  if cells.any fun x => x.kind == .notice then u.setNoticePending else u

/-- R138: a placement is taken when the link is in UP or DRAINING and the queue holds fewer than 4 cells. -/
def Port.takesControl (p : Port) : Bool := p.unit.state.inService && decide (p.sched.control.length < Config.controlBound)

/-- R138: a cell joins the tail of a control queue. -/
def State.placeControl (s : State) (l : LinkId) (x : ControlCell) : State :=
  s.modPort l fun p => { p with sched := { p.sched with control := p.sched.control ++ [x] } }

/-- R32, R124: entry to UP: window, marker run and up count are 0, LINK_UP is latched, FLOW-due is set and the flow unit
takes a change notice. -/
def State.enterUp (s : State) (l : LinkId) : State :=
  ((s.modPort l fun p =>
      { p with
        unit := { p.unit with state := .up, errorCount := 0, markerRun := 0, upCount := 0, upRising := true, flapDue := false,
                              qualified := false, lossTimer := none }
        flowDue := true }).latchLink l .linkUp).changeNotice

/-- R111: flush completion: the queues are empty with their flags XON, the flush flag clears, and a link waiting in QUALIFY
with its qualified note set enters UP (R29). -/
def State.completeFlush (s : State) (l : LinkId) : State :=
  let t := s.modPort l fun p => { p with queues := { p.queues with xoff := Vector.replicate 4 false, flushing := false } }
  if (t.port l).unit.state == .qualify && (t.port l).unit.qualified then t.enterUp l else t

/-- R109, R111: a flush request: nothing while a flush is in progress; otherwise the flush starts, and completes at once when
the four queues are empty. -/
def State.requestFlush (s : State) (l : LinkId) : State :=
  if (s.port l).queues.flushing then s
  else
    let t := s.modPort l fun p => { p with queues := { p.queues with flushing := true } }
    if (t.port l).queues.total = 0 then t.completeFlush l else t

/-! ## Entries and departures -/

/-- R25: the blank timer's duration, (BLANK_TIME + 1) × 64 microseconds. -/
def State.blankDuration (s : State) : Nat := (s.param .blankTime + 1) * 64

/-- R25: one link as it enters BLANK. -/
def Port.toBlank (duration : Nat) (p : Port) : Port :=
  { p with
    unit := { p.unit with state := .blank, blankTimer := some duration, qualRun := 0, mismatchRun := 0, qualified := false }
    credit := LinkCredit.zero }

/-- R25: entry to BLANK. -/
def State.enterBlank (s : State) (l : LinkId) : State := s.modPort l (Port.toBlank s.blankDuration)

/-- R37: what every LINK_DISABLE to OFF does in the link unit. -/
def LinkUnit.disable (u : LinkUnit) : LinkUnit :=
  { u with state := .off, flapCount := 0, holdDown := none, blankTimer := none, lossTimer := none, upRising := false,
           flapDue := false, qualified := false, checker := .unseeded }

/-- R40: what every entry to FAULT does in the link unit. -/
def LinkUnit.fail (u : LinkUnit) (cause : FaultCause) (epoch : Half) (recovery : Recovery) : LinkUnit :=
  { u with state := .fault, lossTimer := none, upRising := false, flapDue := false, qualified := false,
           lastFault := some { cause := cause, epoch := epoch }
           holdDown := if recovery = .auto then some 0 else none }

/-- R37, R40: a departure from UP is told to the flow unit. -/
def State.tellLeftUp (s : State) (was : LinkState) : State := if was == .up then s.changeNotice else s

/-- R37, R39, R40, R139: a link that has left UP or DRAINING abruptly has its control queue emptied and a flush requested. -/
def State.abandonTraffic (s : State) (l : LinkId) (was : LinkState) : State :=
  if was.inService then (s.emptyControl l).requestFlush l else s

/-- R37: LINK_DISABLE NOW, in every state. -/
def State.disableNow (s : State) (l : LinkId) : State :=
  let was := (s.port l).unit.state
  ((s.modUnit l LinkUnit.disable).abandonTraffic l was).tellLeftUp was

/-- R39: the drain ends with the queues empty: the link enters OFF with no flush. -/
def State.endDrain (s : State) (l : LinkId) : State :=
  (s.modUnit l fun u => { u with state := .off, lossTimer := none }).emptyControl l

/-- R39, R104: the queue manager reports that the link's four queues have become empty. -/
def State.tellQueuesEmpty (s : State) (l : LinkId) : State :=
  if (s.port l).unit.state == .draining && (s.port l).queues.total == 0 then s.endDrain l else s

/-- R38: LINK_DISABLE DRAIN. -/
def State.disableDrain (s : State) (l : LinkId) : State :=
  match (s.port l).unit.state with
  | .up =>
    let t := (s.modUnit l fun u =>
      { u with state := .draining, drainCount := 0, flapCount := 0, upRising := false, flapDue := false }).changeNotice
    t.tellQueuesEmpty l
  | .draining => s.modUnit l fun u => { u with flapCount := 0 }
  | .off | .blank | .seek | .qualify | .fault | .test => s.disableNow l

/-- R40: entry to FAULT. -/
def State.enterFault (s : State) (l : LinkId) (cause : FaultCause) : State :=
  let was := (s.port l).unit.state
  let recovery := (s.port l).map.recovery
  (((s.modUnit l fun u => u.fail cause s.epoch.count recovery).abandonTraffic l was).tellLeftUp was).latchLink l .fault

/-! ## Reports of the classifier (R20, R28 to R31, R34, R35) -/

/-- R20: what the classifier tells the link unit; an IDLE with whether it matches the Port Map entry (R28). -/
inductive Report where
  | checkFailed
  | idle (isMatch : Bool)
  | marker
  | other
  deriving DecidableEq, Repr

/-- R28: an IDLE cell matches: SENDER_KIND is LINE_CARD, and SENDER_ID and SENDER_LINK are those expected or ANY. -/
def PortMapEntry.matchesIdle (e : PortMapEntry) (c : Cell) : Bool :=
  c.byte 0 == 1 && (e.expectId == 255 || c.byte 1 == e.expectId) && (e.expectLink == 255 || c.byte 2 == e.expectLink)

/-- R28, R31: the mismatch run after a report. -/
def LinkUnit.moveMismatch (u : LinkUnit) : Report → LinkUnit
  | .idle true => { u with mismatchRun := 0 }
  | .idle false => { u with mismatchRun := u.mismatchRun + 1 }
  | .marker | .checkFailed | .other => u

/-- R28, R29: the qualification run after a report in QUALIFY; it is not counted while the qualified note is set. -/
def LinkUnit.moveQual (u : LinkUnit) (r : Report) : LinkUnit :=
  if u.qualified then u
  else match r with
    | .idle true => { u with qualRun := u.qualRun + 1 }
    | .idle false | .marker | .checkFailed => { u with qualRun := 0 }
    | .other => u

/-- R29, R31: the comparisons after a report in QUALIFY. -/
def State.compareRuns (s : State) (l : LinkId) : State :=
  let p := s.port l
  if s.param .qualifyCount ≤ p.unit.mismatchRun then s.enterFault l .miswire
  else if !p.unit.qualified && decide (s.param .qualifyCount ≤ p.unit.qualRun) then
    if p.queues.flushing then s.modUnit l fun u => { u with qualified := true } else s.enterUp l
  else s

/-- R35, R34: the remote-marker run and the error window count after a report in UP or DRAINING. -/
def LinkUnit.moveService (u : LinkUnit) : Report → LinkUnit
  | .marker => { u with markerRun := u.markerRun + 1 }
  | .checkFailed => { u with markerRun := 0, errorCount := u.errorCount + 1 }
  | .idle _ | .other => { u with markerRun := 0 }

/-- R31, R34, R35: the fault a report brings in UP or DRAINING, if any. -/
def State.serviceFault (s : State) (l : LinkId) : Report → Option FaultCause
  | .marker => if 4 ≤ (s.port l).unit.markerRun then some .remote else none
  | .checkFailed =>
    if (s.port l).map.errorLimit ≠ 0 ∧ (s.port l).map.errorLimit.toNat < (s.port l).unit.errorCount then some .errorRate
    else none
  | .idle _ => if s.param .qualifyCount ≤ (s.port l).unit.mismatchRun then some .miswire else none
  | .other => none

/-- A report of the classifier to the link unit. In the states in which no cell is examined there is none (R16). -/
def State.report (s : State) (l : LinkId) (r : Report) : State :=
  match (s.port l).unit.state with
  | .qualify => (s.modUnit l fun u => (u.moveQual r).moveMismatch r).compareRuns l
  | .up | .draining =>
    let t := s.modUnit l fun u => (u.moveService r).moveMismatch r
    match t.serviceFault l r with
    | some cause => t.enterFault l cause
    | none => t
  | .off | .blank | .seek | .fault | .test => s

/-! ## Receiver events (R22, R26, R27, R30, R33) -/

/-- R33: the loss timer's duration: SHORT 2, LONG 10 microseconds. -/
def State.lossDuration (s : State) : Nat := if s.param .losIntegration = 0 then 2 else 10

/-- R30, R33: signal lost or alignment lost, besides the conditions. -/
def LinkUnit.loseLock (u : LinkUnit) (duration : Nat) : LinkUnit :=
  match u.state with
  | .qualify => { u with state := .seek, qualRun := 0, qualified := false }
  | .up | .draining => if u.lossTimer.isSome then u else { u with lossTimer := some duration }
  | .off | .blank | .seek | .fault | .test => u

/-- R27, R33: the link comes into lock. -/
def LinkUnit.comeIntoLock (u : LinkUnit) : LinkUnit :=
  match u.state with
  | .seek => { u with state := .qualify, qualRun := 0 }
  | .up | .draining => { u with lossTimer := none }
  | .off | .blank | .qualify | .fault | .test => u

/-- R22: a receiver event that may bring the link into lock: it does so only when the link was not in lock before it. -/
def LinkUnit.regain (before after : LinkUnit) : LinkUnit :=
  if !before.inLock && after.inLock then after.comeIntoLock else after

/-- SIGNAL_LOST (R22, R30, R33). -/
def execSignalLost (l : LinkId) : State → Host.Outcome State Fault Refusal :=
  act fun s => s.modUnit l fun u => ({ u with signal := false, aligned := false } : LinkUnit).loseLock s.lossDuration

/-- ALIGNMENT_LOST (R22, R30, R33). -/
def execAlignmentLost (l : LinkId) : State → Host.Outcome State Fault Refusal :=
  act fun s => s.modUnit l fun u => ({ u with aligned := false } : LinkUnit).loseLock s.lossDuration

/-- SIGNAL_RESTORED (R22, R27, R33). -/
def execSignalRestored (l : LinkId) : State → Host.Outcome State Fault Refusal :=
  act fun s => s.modUnit l fun u => u.regain { u with signal := true }

/-- ALIGNMENT_GAINED (R22, R27, R33). -/
def execAlignmentGained (l : LinkId) : State → Host.Outcome State Fault Refusal :=
  act fun s => s.modUnit l fun u => u.regain { u with aligned := true }

/-! ## Timers and flush completion -/

/-- R26: blank timer expiry; nothing unless the blank timer runs in BLANK. -/
def LinkUnit.blankExpiry (u : LinkUnit) : LinkUnit :=
  if u.state == .blank && u.blankTimer.isSome then
    if u.inLock then { u with state := .qualify, blankTimer := none, qualRun := 0 }
    else { u with state := .seek, blankTimer := none }
  else u

/-- BLANK_TIMER_EXPIRY (R26). -/
def execBlankTimerExpiry (l : LinkId) : State → Host.Outcome State Fault Refusal :=
  act fun s => s.modUnit l LinkUnit.blankExpiry

/-- R33: loss timer expiry; nothing unless the loss timer runs in UP or DRAINING. -/
def State.lossExpiry (s : State) (l : LinkId) : State :=
  let u := (s.port l).unit
  if u.state.inService && u.lossTimer.isSome then s.enterFault l (if u.signal then .alignLost else .los) else s

/-- LOSS_TIMER_EXPIRY (R33). -/
def execLossTimerExpiry (l : LinkId) : State → Host.Outcome State Fault Refusal := act fun s => s.lossExpiry l

/-- GAP_TIMER_EXPIRY (R121). -/
def execGapTimerExpiry : State → Host.Outcome State Fault Refusal := act State.gapExpiry

/-- R110: the first class of the link that holds descriptors. -/
def LinkQueues.firstClass (q : LinkQueues) : Option ClassId := allClasses.find? fun c => !q.lists[c].isEmpty

/-- R110: one removal of a flush in progress: head of the first class that holds descriptors, counted in FLUSHED. -/
def State.flushOne (s : State) (l : LinkId) : State :=
  if (s.port l).queues.flushing then
    match (s.port l).queues.firstClass with
    | none => s
    | some c =>
      match (s.port l).queues.lists[c] with
      | [] => s
      | slot :: rest => (s.removeHead l c slot rest).countLink l .flushed
  else s

/-- FLUSH_REMOVAL (R110). -/
def execFlushRemoval (l : LinkId) : State → Host.Outcome State Fault Refusal := act fun s => s.flushOne l

/-- R111: the completion of a flush in progress, when the link's four queues are empty. -/
def State.flushEnd (s : State) (l : LinkId) : State :=
  if (s.port l).queues.flushing && (s.port l).queues.total == 0 then s.completeFlush l else s

/-- FLUSH_COMPLETION (R111, R29). -/
def execFlushCompletion (l : LinkId) : State → Host.Outcome State Fault Refusal := act fun s => s.flushEnd l

/-! ## Boundary work (R34, R36, R39, R43) -/

/-- R34, R36, R39, R43: a link unit at an epoch boundary. -/
def LinkUnit.boundaryWork (u : LinkUnit) (flapClear : Nat) : LinkUnit :=
  match u.state with
  | .up =>
    if u.upRising then
      let n := min 65535 (u.upCount + 1)
      { u with errorCount := 0, upCount := n, flapDue := decide (flapClear ≤ n) }
    else { u with errorCount := 0 }
  | .draining => { u with errorCount := 0, drainCount := u.drainCount + 1 }
  | .fault => { u with holdDown := u.holdDown.map (· + 1) }
  | .off | .blank | .seek | .qualify | .test => u

/-- LINK_BOUNDARY_WORK: one boundary that has been delivered to the link unit is handled; nothing when none has. -/
def State.linkBoundary (s : State) (l : LinkId) : State :=
  match (s.port l).boundaries with
  | 0 => s
  | n + 1 => s.modPort l fun p => { p with boundaries := n, unit := p.unit.boundaryWork (s.param .flapClear) }

/-- LINK_BOUNDARY_WORK (R34, R36, R39, R43). -/
def execLinkBoundaryWork (l : LinkId) : State → Host.Outcome State Fault Refusal := act fun s => s.linkBoundary l

/-- R36: the up count has reached FLAP_CLEAR in UP: the flap count becomes 0 and the up count stops rising. -/
def LinkUnit.clearFlaps (u : LinkUnit) : LinkUnit :=
  if u.state == .up && u.flapDue then { u with flapCount := 0, upRising := false, flapDue := false } else u

/-- FLAP_CLEAR (R36). -/
def execFlapClear (l : LinkId) : State → Host.Outcome State Fault Refusal := act fun s => s.modUnit l LinkUnit.clearFlaps

/-- R39: the drain count has reached DRAIN_LIMIT. -/
def Port.drainDue (p : Port) : Bool := p.unit.state == .draining && decide (p.map.drainLimit.toNat ≤ p.unit.drainCount)

/-- R39: the drain ends at its limit. -/
def State.drainAtLimit (s : State) (l : LinkId) : State :=
  if (s.port l).drainDue then
    ((s.modUnit l fun u => { u with state := .off, lossTimer := none }).abandonTraffic l .draining).latchLink l .drainTimeout
  else s

/-- DRAIN_LIMIT (R39). -/
def execDrainLimit (l : LinkId) : State → Host.Outcome State Fault Refusal := act fun s => s.drainAtLimit l

/-- R43: the hold-down count has reached HOLD_DOWN. -/
def Port.holdDownDue (p : Port) : Bool :=
  p.unit.state == .fault && p.unit.holdDown.any fun n => decide (p.map.holdDown.toNat ≤ n)

/-- R43: the hold-down ends: the flap count rises (to 255 at most), and the link is held with FLAP_LIMIT latched or enters
BLANK. -/
def State.endHoldDown (s : State) (l : LinkId) : State :=
  if (s.port l).holdDownDue then
    let t := s.modUnit l fun u => { u with holdDown := none, flapCount := min 255 (u.flapCount + 1) }
    if (t.port l).map.flapLimit ≠ 0 ∧ (t.port l).map.flapLimit.toNat < (t.port l).unit.flapCount then t.latchLink l .flapLimit
    else t.enterBlank l
  else s

/-- HOLD_DOWN_END (R43). -/
def execHoldDownEnd (l : LinkId) : State → Host.Outcome State Fault Refusal := act fun s => s.endHoldDown l

/-- REFRESH (R123). -/
def execRefresh : State → Host.Outcome State Fault Refusal := act State.refreshFlow

/-! ## Test mode (R45, R46) -/

/-- R45: entry to TEST. -/
def Port.toTest (p : Port) : Port :=
  { p with unit := { p.unit with state := .test, generator := BitVec.allOnes 31, checker := .unseeded }, testErrors := 0 }

/-- R46: a cell in error while tracking: the count and the streak rise, and at a streak of 8 the checker is unseeded. -/
def Port.judgeBad (p : Port) (g : BitVec 31) (streak : Nat) : Port :=
  let q := p.countTestError
  { q with unit := { q.unit with
      checker := if 8 ≤ streak + 1 then .unseeded else .tracking (patternAdvance 512 g) (streak + 1) } }

/-- R46: the test checker takes a TEST cell. -/
def Port.checkTestCell (c : Cell) (p : Port) : Port :=
  match p.unit.checker with
  | .unseeded => { p with unit := { p.unit with checker := .tracking (patternSeed c) 0 } }
  | .tracking g streak =>
    if c.payload = patternPayload g then { p with unit := { p.unit with checker := .tracking (patternAdvance 512 g) 0 } }
    else p.judgeBad g streak

/-- R46: the test checker takes a header-damaged cell. -/
def Port.checkDamaged (p : Port) : Port :=
  match p.unit.checker with
  | .unseeded => p
  | .tracking g streak => p.judgeBad g streak

end Sys2Proof.Machine
end

