-- ==== Sys2Proof/Machine/Routes.lean ====
section
/-! DEFINITION. The route store (spec/03_route_sets_and_cell_resolution.md): storage upsets, the examination of ACTIVE
entries, the search for a live member, and the resolution of unicast and multicast cells. -/

namespace Sys2Proof.Machine

/-! ## Entries -/

/-- The state of the route store changed. -/
def State.modRoutes (s : State) (f : RouteStore → RouteStore) : State := { s with routes := f s.routes }

/-- One route set. -/
def RouteStore.get (r : RouteStore) : RouteSetId → RouteSet
  | .stageA => r.stageA
  | .stageB => r.stageB
  | .active => r.active

/-- One route set replaced. -/
def RouteStore.put (r : RouteStore) (x : RouteSet) : RouteSetId → RouteStore
  | .stageA => { r with stageA := x }
  | .stageB => { r with stageB := x }
  | .active => { r with active := x }

/-- One Destination entry of a set stored. -/
def RouteStore.putDest (r : RouteStore) (set : RouteSetId) (d : Dcn) (e : DestEntry) : RouteStore :=
  r.put { r.get set with dest := (r.get set).dest.set d e } set

/-- One Group entry of a set stored. -/
def RouteStore.putGroup (r : RouteStore) (set : RouteSetId) (g : GroupId) (e : GroupEntry) : RouteStore :=
  r.put { r.get set with group := (r.get set).group.set g e } set

/-- R52: a storage upset: the entry holds the disturbed contents, and its check fails until it is next written. -/
def RouteStore.upset (r : RouteStore) : Upset → RouteStore
  | .dest set d contents => r.putDest set d { contents := contents, intact := false }
  | .group set g contents => r.putGroup set g { contents := contents, intact := false }

/-- STORAGE_UPSET (R52). -/
def execStorageUpset (u : Upset) : State → Host.Outcome State Fault Refusal := act fun s => s.modRoutes (·.upset u)

/-! ## Examination (R58, R60, R63, R64) -/

/-- R60, R64: what the examination of an ACTIVE entry finds, in the order of its cases. -/
inductive Examined where
  | marked
  | failing
  | invalid
  | usable
  deriving DecidableEq, Repr

/-- R60, R64: the cases in order. -/
def examine (bad intact valid : Bool) : Examined :=
  if bad then .marked else if !intact then .failing else if !valid then .invalid else .usable

/-- R60: the examination of ACTIVE Destination entry d. -/
def State.examineDest (s : State) (d : Dcn) : Examined :=
  examine s.routes.destBad[d] s.routes.active.dest[d].intact s.routes.active.dest[d].contents.valid

/-- R64: the examination of ACTIVE Group entry g. -/
def State.examineGroup (s : State) (g : GroupId) : Examined :=
  examine s.routes.groupBad[g] s.routes.active.group[g].intact s.routes.active.group[g].contents.valid

/-- R63, R86: an ACTIVE entry has been found failing: ROUTE_CHECK is latched and ROUTE_CHECK_FOUND counted. -/
def State.reportFailing (s : State) : State := (s.latch .routeCheck).countElement .routeCheckFound

/-- R63, R86: ACTIVE Destination entry d is marked bad and reported. -/
def State.markDest (s : State) (d : Dcn) : State :=
  (s.modRoutes fun r => { r with destBad := r.destBad.set d true }).reportFailing

/-- R63, R86: ACTIVE Group entry g is marked bad and reported. -/
def State.markGroup (s : State) (g : GroupId) : State :=
  (s.modRoutes fun r => { r with groupBad := r.groupBad.set g true }).reportFailing

/-! ## The search for a live member (R61) -/

/-- The link at index i of an entry's member list. -/
def memberLink (e : DestContents) (i : Nat) : Option LinkId := linkOfByte (byteAt e.members.toList i)

/-- R61: the order in which n members are examined from pointer p. -/
def searchOrder (n p : Nat) : List Nat := (List.range n).map fun k => (p + k) % n

/-- R61: the index of the first live member from the spray pointer. -/
def State.liveIndex (s : State) (d : Dcn) : Option Nat :=
  let e := s.routes.active.dest[d].contents
  (searchOrder e.count.toNat s.routes.pointer[d].val).find? fun i => (memberLink e i).any s.isUp

/-- R61: the target that a usable entry gives. -/
def State.liveTarget (s : State) (d : Dcn) : Option Target :=
  (s.liveIndex d).bind (memberLink s.routes.active.dest[d].contents)

/-- R57, R61: the spray pointer after the search. -/
def State.advancePointer (s : State) (d : Dcn) : State :=
  match s.liveIndex d with
  | none => s
  | some i =>
    s.modRoutes fun r =>
      { r with pointer := r.pointer.set d (Fin.ofNat 4 ((i + 1) % r.active.dest[d].contents.count.toNat)) }

/-! ## Unicast (R62) -/

/-- R62: a DATA_U cell for DCN d resolved, and admitted or discarded. -/
def State.resolveUnicast (s : State) (arrival : LinkId) (c : ClassId) (cell : Cell) (d : Dcn) : State :=
  match s.examineDest d with
  | .marked => s.countLink arrival .routeCheckDiscards
  | .failing => (s.markDest d).countLink arrival .routeCheckDiscards
  | .invalid => s.countLink arrival .unknownDest
  | .usable =>
    match s.liveTarget d with
    | some target => (s.advancePointer d).admitUnicast arrival c cell target
    | none => s.countLink arrival .unreachable

/-! ## Multicast (R64 to R66) -/

/-- R65: the state and the target list as the members are taken. -/
structure Resolving where
  state   : State
  targets : List Target

/-- R65: one member of a usable Group entry. -/
def resolveMember (arrival : LinkId) (echo : Bool) (a : Resolving) (d : Dcn) : Resolving :=
  match a.state.examineDest d with
  | .marked | .invalid => { a with state := a.state.countLink arrival .mcastCopyLoss }
  | .failing => { a with state := (a.state.markDest d).countLink arrival .mcastCopyLoss }
  | .usable =>
    if !echo && (destLinks a.state.routes.active.dest[d].contents).contains arrival then a
    else
      match a.state.liveTarget d with
      | some target => { state := a.state.advancePointer d, targets := a.targets ++ [target] }
      | none => { a with state := a.state.countLink arrival .mcastCopyLoss }

/-- The DCN a member byte of a Group entry names; a value above 119 names none. -/
def dcnOfByte (b : Byte) : Option Dcn := if h : b.toNat < 120 then some ⟨b.toNat, h⟩ else none

/-- R49, R51: the DCNs of a Group entry's member list, in stored order. -/
def groupMembers (e : GroupContents) : List Dcn := (e.members.toList.take e.count.toNat).filterMap dcnOfByte

/-- R65: all the members of a usable Group entry. -/
def State.resolveMembers (s : State) (arrival : LinkId) (g : GroupId) : Resolving :=
  let e := s.routes.active.group[g].contents
  (groupMembers e).foldl (resolveMember arrival e.echo) { state := s, targets := [] }

/-- R64, R66: a DATA_M cell for group g resolved, and admitted or discarded. -/
def State.resolveMulticast (s : State) (arrival : LinkId) (c : ClassId) (cell : Cell) (g : GroupId) : State :=
  match s.examineGroup g with
  | .marked => s.countLink arrival .routeCheckDiscards
  | .failing => (s.markGroup g).countLink arrival .routeCheckDiscards
  | .invalid => s.countLink arrival .unknownDest
  | .usable =>
    let r := s.resolveMembers arrival g
    if r.targets.isEmpty then r.state.countLink arrival .unreachable
    else r.state.admitMulticast arrival c cell r.targets

end Sys2Proof.Machine
end

