-- ==== Sys2Proof/Machine/Epoch.lean ====
section
/-! DEFINITION. The epoch unit (spec/08_the_epoch.md): boundaries of every kind, external epochs, the EPOCH_IN pin monitor,
the EPOCH_OUT pulse and the writes of EPOCH_SOURCE and SYNC_LINK. -/

namespace Sys2Proof.Machine

/-- The state of the epoch unit changed. -/
def State.modEpoch (s : State) (f : EpochUnit → EpochUnit) : State := { s with epoch := f s.epoch }

/-- R149: the period P in microseconds, by the parameter. -/
def State.periodWritten (s : State) : Nat := (s.param .epochPeriod + 1) * 8

/-- R149: the tolerance in force, by the parameters. -/
def State.tolWritten (s : State) : Nat := min (s.param .epochTol) (s.periodWritten / 4)

/-- R153: the value E takes at a boundary; `carried` is the value of the SYNC cell that made it, if one did. -/
def EpochUnit.nextCount (e : EpochUnit) (carried : Option Half) : Half :=
  match e.pending with
  | some n => n
  | none => carried.getD (e.count + 1)

/-- R153: the boundary latches EPOCH_JUMP: a carried value is taken and is not the next number. -/
def EpochUnit.jumps (e : EpochUnit) (carried : Option Half) : Bool :=
  e.pending.isNone && carried.any fun v => v != e.count + 1

/-- R152: the boundary is delivered to every block that acts at boundaries. -/
def State.deliver (s : State) (b : Boundary) : State :=
  let t := s.mapPorts fun p => { p with boundaries := p.boundaries + 1 }
  { t with
    commit := { t.commit with boundaries := t.commit.boundaries ++ [b] }
    flow := { t.flow with boundaries := t.flow.boundaries + 1 }
    notice := { t.notice with boundaries := t.notice.boundaries ++ [b.epoch] } }

/-- R152: the epoch unit at a boundary: E takes its new value, the sync state and the miss run are as given, the window timer
restarts with P and tol fixed, and EPOCH_OUT rises for 1 microsecond. -/
def EpochUnit.atBoundary (e : EpochUnit) (carried : Option Half) (sync : SyncState) (missRun period tol : Nat) : EpochUnit :=
  { e with count := e.nextCount carried, sync := sync, window := 0, period := period, tol := tol, missRun := missRun,
           pending := none, out := some 1 }

/-- R152: one epoch boundary, whole; `lost` is the LOST indication. -/
def State.boundary (s : State) (carried : Option Half) (sync : SyncState) (missRun : Nat) (lost : Bool) : State :=
  let t := if s.epoch.jumps carried then s.latch .epochJump else s
  let u := t.modEpoch fun e => e.atBoundary carried sync missRun s.periodWritten s.tolWritten
  u.deliver { epoch := u.epoch.count, lost := lost }

/-- R156: the reading of the window timer at which an external epoch is judged: never before the timer's own value, and no
later than the holdover mark, at which a holdover boundary would have come first. -/
def EpochUnit.reading (e : EpochUnit) (elapsed : Nat) : Nat := min (max e.window elapsed) (max e.window (e.period + e.tol))

/-- R151, R155 to R157: an external epoch. One that follows the holdover boundary of the fourth miss finds the unit in LOST and is
taken at once, as R157 gives, though R156's last bullet calls an epoch that follows a holdover boundary early (DESIGN CHOICE, log
entry 24). -/
def State.externalEpoch (s : State) (carried : Option Half) (elapsed : Nat) : State :=
  match s.epoch.sync with
  | .free => s
  | .acquiring | .lost => s.boundary carried .locked 0 false
  | .locked | .holdover =>
    let t := s.modEpoch fun e => { e with window := e.reading elapsed }
    if t.epoch.window < t.epoch.period - t.epoch.tol then (t.countElement .epochEarlyCount).latch .epochEarly
    else t.boundary carried .locked 0 false

/-- R151, R155, R157: the window timer reaches P in FREE, ACQUIRING or LOST. -/
def State.timerBoundary (s : State) : State :=
  match s.epoch.sync with
  | .free | .acquiring | .lost => s.boundary none s.epoch.sync s.epoch.missRun false
  | .locked | .holdover => s

/-- TIMER_BOUNDARY (R151). -/
def execTimerBoundary : State → Host.Outcome State Fault Refusal := act State.timerBoundary

/-- R156: the window timer reaches P + tol in LOCKED or HOLDOVER: a miss, and LOST at the fourth in a row. -/
def State.holdoverBoundary (s : State) : State :=
  match s.epoch.sync with
  | .locked | .holdover =>
    let t := (s.countElement .epochMissedCount).latch .epochMissed
    if 4 ≤ s.epoch.missRun + 1 then (t.latch .epochLost).boundary none .lost (s.epoch.missRun + 1) true
    else t.boundary none .holdover (s.epoch.missRun + 1) false
  | .free | .acquiring | .lost => s

/-- HOLDOVER_BOUNDARY (R156). -/
def execHoldoverBoundary : State → Host.Outcome State Fault Refusal := act State.holdoverBoundary

/-! ## Pins (R154, R158) -/

/-- R158: EPOCH_SOURCE is PIN. -/
def State.sourceIsPin (s : State) : Bool := s.param .epochSource == 1

/-- R158: a rising edge of EPOCH_IN: under source PIN it is an external epoch, and the monitor enters HIGH with its stuck timer
at P / 2 of the interval in progress; nothing when the pin is high already. -/
def State.pinRises (s : State) (elapsed : Nat) : State :=
  if s.epoch.pinHigh then s
  else
    let t := s.modEpoch fun e => { e with pinHigh := true }
    if s.sourceIsPin && s.epoch.monitor == .low then
      (t.externalEpoch none elapsed).modEpoch fun e => { e with monitor := .high (s.epoch.period / 2) }
    else t

/-- EPOCH_IN_RISING_EDGE (R158). The pin's level follows the edge even while the element is held in reset. -/
def execEpochInRisingEdge (elapsed : Nat) (s : State) : Host.Outcome State Fault Refusal :=
  .next (if s.inReset then s.modEpoch fun e => { e with pinHigh := true } else s.pinRises elapsed)

/-- R158: a falling edge: the monitor enters LOW, its timer stopped and its stuck status clear. -/
def EpochUnit.pinFalls (e : EpochUnit) : EpochUnit := { e with pinHigh := false, monitor := .low }

/-- EPOCH_IN_FALLING_EDGE (R158), also while the element is held in reset. -/
def execEpochInFallingEdge (s : State) : Host.Outcome State Fault Refusal := .next (s.modEpoch EpochUnit.pinFalls)

/-- R158: the stuck timer expires in HIGH. -/
def State.stuckExpiry (s : State) : State :=
  match s.epoch.monitor with
  | .high _ => (s.modEpoch fun e => { e with monitor := .stuck }).latch .pinStuck
  | .low | .stuck => s

/-- STUCK_TIMER_EXPIRY (R158). -/
def execStuckTimerExpiry : State → Host.Outcome State Fault Refusal := act State.stuckExpiry

/-- EPOCH_OUT_FALL (R154). -/
def execEpochOutFall : State → Host.Outcome State Fault Refusal := act fun s => s.modEpoch fun e => { e with out := none }

/-! ## Writes of the source and of the sync link (R150, R158) -/

/-- R150: the sync state that a written EPOCH_SOURCE gives. -/
def syncOfSource (source : Nat) : SyncState := if source = 0 then .free else .acquiring

/-- R158: the pin monitor set afresh by a write of EPOCH_SOURCE. -/
def EpochUnit.freshMonitor (e : EpochUnit) (source : Nat) : PinMonitor :=
  if source = 1 ∧ e.pinHigh then .high (e.period / 2) else .low

/-- R150, R158: EPOCH_SOURCE has been written; E, the window timer and the pending value are kept. -/
def EpochUnit.sourceWritten (e : EpochUnit) (source : Nat) : EpochUnit :=
  { e with sync := syncOfSource source, missRun := 0, monitor := e.freshMonitor source }

/-- R150: SYNC_LINK has been written, the source being `source`. -/
def EpochUnit.syncLinkWritten (e : EpochUnit) (source : Nat) : EpochUnit :=
  if source = 2 then { e with sync := .acquiring, missRun := 0 } else e

end Sys2Proof.Machine
end

