-- ==== Sys2Proof/Machine/Commit.lean ====
section
/-! DEFINITION. The commit unit (spec/04_staging_commit_and_route_integrity.md): the check walk, the outcomes, the firing and
the scrub of ACTIVE. -/

namespace Sys2Proof.Machine

/-- The state of the commit unit changed. -/
def State.modCommit (s : State) (f : CommitUnit → CommitUnit) : State := { s with commit := f s.commit }

/-- R1: N is ahead of E. -/
def ahead (n e : Half) : Bool := decide (1 ≤ (n - e).toNat) && decide ((n - e).toNat ≤ 32767)

/-- R72, R85: the entry at a position of the walk or of the scrub. -/
def routePos (n : Nat) : Option RoutePos :=
  if h : n < 120 then some (.dest ⟨n, h⟩)
  else if h : n - 120 < 512 then some (.group ⟨n - 120, h⟩)
  else none

/-- The set of a stage. -/
def Stage.set : Stage → RouteSetId
  | .a => .stageA
  | .b => .stageB

/-- R52: the check of a stored entry passes. -/
def RouteSet.passes (r : RouteSet) : RoutePos → Bool
  | .dest d => r.dest[d].intact
  | .group g => r.group[g].intact

/-- R82: the flag that goes with an outcome, latched. -/
def State.latchOutcome (s : State) : CommitOutcome → State
  | .done => s.latch .commitDone
  | .checkFailed _ | .late | .abandoned => s.latch .commitFailed
  | .cancelled => s

/-- R82, R83: a commit ends: the last-commit record is written whole, the unit enters IDLE, and the outcome's flag is latched. -/
def State.endCommit (s : State) (request : CommitRequest) (outcome : CommitOutcome) (epoch : Half) : State :=
  (s.modCommit fun u =>
    { u with state := .idle, record := some { request := request, outcome := outcome, epoch := epoch } }).latchOutcome outcome

/-- R77, R78: ACTIVE takes the selected stage, entries and checks alike; every bad mark clears and every pointer is 0. -/
def RouteStore.fire (r : RouteStore) (stage : Stage) : RouteStore :=
  { r with active := r.get stage.set, destBad := Vector.replicate 120 false, groupBad := Vector.replicate 512 false,
           pointer := Vector.replicate 120 0 }

/-- R77: a commit fires. -/
def State.fire (s : State) (request : CommitRequest) (epoch : Half) : State :=
  ((s.modRoutes (·.fire request.stage)).endCommit request .done epoch).changeNotice

/-! ## The walk (R72, R73) -/

/-- R72: one examination of the walk; nothing when no walk has an entry to examine. -/
def State.walkOne (s : State) : State :=
  match s.commit.state with
  | .checking request position none =>
    match routePos position with
    | some e =>
      s.modCommit fun u =>
        { u with state := .checking request (position + 1)
                  (if (s.routes.get request.stage.set).passes e then none else some e) }
    | none => s
  | .checking _ _ (some _) | .idle | .armed _ => s

/-- WALK_EXAMINATION (R72). -/
def execWalkExamination : State → Host.Outcome State Fault Refusal := act State.walkOne

/-- R73: check completion, when an examination has failed or all 632 entries have passed. -/
def State.completeWalk (s : State) : State :=
  match s.commit.state with
  | .checking request _ (some e) => s.endCommit request (.checkFailed e) s.epoch.count
  | .checking request position none =>
    if position < Config.routePositions then s
    else if request.now then s.fire request s.epoch.count
    else s.modCommit fun u => { u with state := .armed request }
  | .idle | .armed _ => s

/-- CHECK_COMPLETION (R73). -/
def execCheckCompletion : State → Host.Outcome State Fault Refusal := act State.completeWalk

/-! ## The commit unit at a boundary (R75, R76, R86) -/

/-- R75, R76: the commit in progress at a boundary. -/
def State.commitAtBoundary (s : State) (b : Boundary) : State :=
  match s.commit.state with
  | .idle => s
  | .checking request _ _ =>
    if request.now || ahead request.target b.epoch then s else s.endCommit request .late b.epoch
  | .armed request =>
    if b.lost then s.endCommit request .abandoned b.epoch
    else if b.epoch = request.target then s.fire request b.epoch
    else if ahead request.target b.epoch then s
    else s.endCommit request .late b.epoch

/-- R86: the scrub visits an entry: passed over when marked or intact, marked and reported when its check fails. -/
def State.visit (s : State) : RoutePos → State
  | .dest d => if !s.routes.destBad[d] && !s.routes.active.dest[d].intact then s.markDest d else s
  | .group g => if !s.routes.groupBad[g] && !s.routes.active.group[g].intact then s.markGroup g else s

/-- R85: the scrub position after a visit. -/
def nextScrub (n : Fin 632) : Fin 632 := Fin.ofNat 632 ((n.val + 1) % 632)

/-- R86: one visit of the scrub. -/
def State.scrubOne (s : State) : State :=
  let t := match routePos s.commit.scrub.val with
    | some e => s.visit e
    | none => s
  t.modCommit fun u => { u with scrub := nextScrub u.scrub }

/-- R86: n visits in turn. -/
def State.scrubVisits : Nat → State → State
  | 0, s => s
  | n + 1, s => State.scrubVisits n s.scrubOne

/-- R75, R76, R86: one boundary that has been delivered to the commit unit: the commit first, then the scrub step. -/
def State.commitBoundary (s : State) : State :=
  match s.commit.boundaries with
  | [] => s
  | b :: rest =>
    let t := (s.modCommit fun u => { u with boundaries := rest }).commitAtBoundary b
    State.scrubVisits (t.param .scrubRate) t

/-- COMMIT_BOUNDARY (R75, R76, R86). -/
def execCommitBoundary : State → Host.Outcome State Fault Refusal := act State.commitBoundary

/-! ## The notice unit at a boundary (R185) -/

/-- R174, R185: the link NOTICE_LINK names, or none. -/
def State.noticeLink (s : State) : Option LinkId :=
  if h : s.param .noticeLink < 64 then some ⟨s.param .noticeLink, h⟩ else none

/-- R185: the notice built at the boundary that gave E the value `epoch` is offered to the notice link. -/
def State.offerNotice (s : State) (epoch : Half) : State :=
  match s.noticeLink with
  | none => s
  | some l =>
    if s.notice.pending && (s.port l).takesControl then
      let t := s.placeControl l { kind := .notice, cell := s.noticeCell epoch }
      { t with notice := { t.notice with pending := false } }
    else s

/-- R185: one boundary that has been delivered to the notice unit is handled. -/
def State.noticeBoundary (s : State) : State :=
  match s.notice.boundaries with
  | [] => s
  | e :: rest => ({ s with notice := { s.notice with boundaries := rest } } : State).offerNotice e

/-- NOTICE_BOUNDARY (R185). -/
def execNoticeBoundary : State → Host.Outcome State Fault Refusal := act State.noticeBoundary

end Sys2Proof.Machine
end

