-- ==== Sys2Proof/Machine/Receive.lean ====
section
/-! DEFINITION. Received cells (spec/01_cells.md, Receiving a cell): the classifier by link state, and what each consumer does
with the cell. A command whose cell is not of its row's kind is no event and changes nothing (log entry 3). -/

namespace Sys2Proof.Machine

/-- R16: a cell by the arrival link's state: to the test checker in TEST; counted in RX_CELLS and examined in QUALIFY, UP and
DRAINING; discarded unexamined otherwise. -/
def State.receive (s : State) (l : LinkId) (onTest onQualify onService : State → State) : State :=
  match (s.port l).unit.state with
  | .test => onTest s
  | .qualify => onQualify (s.countLink l .rxCells)
  | .up | .draining => onService (s.countLink l .rxCells)
  | .off | .blank | .seek | .fault => s

/-- R18: a cell that a link in QUALIFY does not take. -/
def State.notUp (s : State) (l : LinkId) : State := (s.countLink l .notUp).report l .other

/-- R18, R19: the payload check: on failure the cell is counted and reported CHECK_FAILED, otherwise it goes on. -/
def State.checked (s : State) (l : LinkId) (cell : Cell) (k : State → State) : State :=
  if cell.payloadOk then k s else (s.countLink l .payloadErrors).report l .checkFailed

/-- The class of a data cell. -/
def Cell.classId (c : Cell) : ClassId := ⟨c.header.cls.toNat, by have := c.header.cls.isLt; omega⟩

/-! ## Data cells -/

/-- R19, R62: a DATA_U cell taken in UP or DRAINING. -/
def State.takeDataU (s : State) (l : LinkId) (cell : Cell) : State :=
  if h : cell.header.dest.toNat < 120 then s.resolveUnicast l (Cell.classId cell) cell ⟨cell.header.dest.toNat, h⟩
  else s.countLink l .unknownDest

/-- R19, R64: a DATA_M cell taken in UP or DRAINING. -/
def State.takeDataM (s : State) (l : LinkId) (cell : Cell) : State :=
  if h : cell.header.dest.toNat < 512 then s.resolveMulticast l (Cell.classId cell) cell ⟨cell.header.dest.toNat, h⟩
  else s.countLink l .unknownDest

/-- DATA_U_RECEIVED (R16 to R19, R62). -/
def execDataUReceived (l : LinkId) (cell : Cell) : State → Host.Outcome State Fault Refusal :=
  act fun s =>
    if cell.isA .dataU then
      s.receive l (fun t => t) (fun t => t.notUp l) (fun t => (t.takeDataU l cell).report l .other)
    else s

/-- DATA_M_RECEIVED (R16 to R19, R64). -/
def execDataMReceived (l : LinkId) (cell : Cell) : State → Host.Outcome State Fault Refusal :=
  act fun s =>
    if cell.isA .dataM then
      s.receive l (fun t => t) (fun t => t.notUp l) (fun t => (t.takeDataM l cell).report l .other)
    else s

/-! ## FLOW (R127, R128) -/

/-- R127: a grant g is accepted for a class. -/
def Port.acceptsGrant (p : Port) (c : ClassId) (g : Byte) : Bool :=
  decide ((g - p.credit.sent[c]).toNat ≤ p.map.creditMax.toNat)

/-- R127, R128: one class's grant judged. -/
def State.judgeGrant (s : State) (l : LinkId) (c : ClassId) (g : Byte) : State :=
  if (s.port l).acceptsGrant c g then
    s.modPort l fun p => { p with credit := { p.credit with granted := p.credit.granted.set c g } }
  else (s.countLink l .creditRejects).latchLink l .creditError

/-- R127: the four grants of a FLOW cell. -/
def State.takeFlow (s : State) (l : LinkId) (cell : Cell) : State :=
  allClasses.foldl (fun t c => t.judgeGrant l c (cell.byte c.val)) s

/-- FLOW_RECEIVED (R16 to R19, R127). -/
def execFlowReceived (l : LinkId) (cell : Cell) : State → Host.Outcome State Fault Refusal :=
  act fun s =>
    if cell.isA .flow then
      s.receive l (fun t => t) (fun t => t.notUp l) (fun t => t.checked l cell fun u => (u.takeFlow l cell).report l .other)
    else s

/-! ## MGMT (R164, R165) -/

/-- R164: the request that a MGMT cell carries. -/
def requestOf (l : LinkId) (cell : Cell) : Request :=
  { link := l, body := bytesVec 62 cell.payload.toList, context := cell.header.context }

/-- R164: why a request is not accepted, if it is not. -/
def State.discardReason (s : State) (l : LinkId) (cell : Cell) : Option DiscardReason :=
  if !(s.port l).map.mgmtAllowed then some .notAllowed
  else if cell.byte 0 ≠ s.identityByte ∧ cell.byte 0 ≠ 255 then some .notTarget
  else if Config.requestBound ≤ s.agent.requests.length then some .queueFull
  else none

/-- R164, R165: a request joins the queue, or is discarded, counted and recorded. -/
def State.takeMgmt (s : State) (l : LinkId) (cell : Cell) : State :=
  match s.discardReason l cell with
  | none => { s with agent := { s.agent with requests := s.agent.requests ++ [requestOf l cell] } }
  | some r =>
    (({ s with agent := { s.agent with lastDiscard := some (r, l) } } : State).countElement .mgmtDiscards).latch .mgmtDiscard

/-- MGMT_RECEIVED (R16 to R19, R164). -/
def execMgmtReceived (l : LinkId) (cell : Cell) : State → Host.Outcome State Fault Refusal :=
  act fun s =>
    if cell.isA .mgmt then
      s.receive l (fun t => t) (fun t => t.notUp l) (fun t => t.checked l cell fun u => (u.takeMgmt l cell).report l .other)
    else s

/-! ## SYNC (R159) -/

/-- R159: a SYNC cell in the epoch unit. -/
def State.takeSync (s : State) (l : LinkId) (value : Half) (elapsed : Nat) : State :=
  if s.param .syncLink ≠ l.val then s.countElement .syncWrongLink
  else if s.param .epochSource = 2 then s.externalEpoch (some value) elapsed
  else s

/-- SYNC_RECEIVED (R16 to R19, R159). -/
def execSyncReceived (l : LinkId) (cell : Cell) (elapsed : Nat) : State → Host.Outcome State Fault Refusal :=
  act fun s =>
    if cell.isA .sync then
      s.receive l (fun t => t) (fun t => t.notUp l)
        (fun t => t.checked l cell fun u => (u.takeSync l (half (cell.byte 0) (cell.byte 1)) elapsed).report l .other)
    else s

/-! ## Cells for the link unit -/

/-- R18, R19, R28: an IDLE cell is reported with whether it matches. -/
def State.takeIdle (s : State) (l : LinkId) (cell : Cell) : State :=
  s.checked l cell fun t => t.report l (.idle ((t.port l).map.matchesIdle cell))

/-- IDLE_RECEIVED (R16 to R19, R28). -/
def execIdleReceived (l : LinkId) (cell : Cell) : State → Host.Outcome State Fault Refusal :=
  act fun s =>
    if cell.isA .idle then s.receive l (fun t => t) (fun t => t.takeIdle l cell) (fun t => t.takeIdle l cell) else s

/-- MARKER_RECEIVED (R11, R16 to R19, R35). -/
def execMarkerReceived (l : LinkId) (cell : Cell) : State → Host.Outcome State Fault Refusal :=
  act fun s =>
    if cell.isA .marker then s.receive l (fun t => t) (fun t => t.report l .marker) (fun t => t.report l .marker) else s

/-- TEST_RECEIVED (R16 to R19, R46). -/
def execTestReceived (l : LinkId) (cell : Cell) : State → Host.Outcome State Fault Refusal :=
  act fun s =>
    if cell.isA .test then
      s.receive l (fun t => t.modPort l (Port.checkTestCell cell)) (fun t => t.notUp l) (fun t => t.report l .other)
    else s

/-- R17: a cell whose header check fails. -/
def State.takeDamaged (s : State) (l : LinkId) : State := (s.countLink l .headerErrors).report l .checkFailed

/-- DAMAGED_CELL_RECEIVED (R16, R17, R46). -/
def execDamagedCellReceived (l : LinkId) (cell : Cell) : State → Host.Outcome State Fault Refusal :=
  act fun s =>
    if !cell.headerOk then
      s.receive l (fun t => t.modPort l Port.checkDamaged) (fun t => t.takeDamaged l) (fun t => t.takeDamaged l)
    else s

/-- R17: a cell of unknown type. -/
def State.takeUnknown (s : State) (l : LinkId) : State := (s.countLink l .badType).report l .other

/-- UNKNOWN_TYPE_RECEIVED (R16, R17). -/
def execUnknownTypeReceived (l : LinkId) (cell : Cell) : State → Host.Outcome State Fault Refusal :=
  act fun s =>
    if cell.isUnknown then s.receive l (fun t => t) (fun t => t.takeUnknown l) (fun t => t.takeUnknown l) else s

end Sys2Proof.Machine
end

