-- ==== Sys2Proof/Machine/Transmit.lean ====
section
/-! DEFINITION. Link transmit scheduling (spec/07_link_transmit_scheduling.md): what each readiness of a transmitter sends. -/

namespace Sys2Proof.Machine

/-- R135: a cell is handed to the transmitter of a link, or the lane stays silent. -/
def State.hand (s : State) (l : LinkId) (cell : Option Cell) : State := s.modPort l fun p => { p with transmitter := cell }

/-- R44: the squelch mode in force on a link. -/
def State.squelch (s : State) (l : LinkId) : Squelch :=
  match s.param .squelchMode with
  | 0 => .idle
  | 1 => .marker
  | 2 => .silent
  | _ => (s.port l).map.squelch

/-- R44: the cell of a link in FAULT. -/
def State.faultCell (s : State) (l : LinkId) : Option Cell :=
  match s.squelch l with
  | .idle => some (s.idleCell l)
  | .marker => some markerCell
  | .silent => none

/-- R12, R44: the next TEST cell of the link's pattern generator. -/
def State.sendTest (s : State) (l : LinkId) : State :=
  (s.hand l (some (testCell (s.port l).unit.generator))).modUnit l fun u =>
    { u with generator := patternAdvance 512 u.generator }

/-! ## Eligibility and the round robin (R140 to R143) -/

/-- R140: a class is eligible: its queue holds a cell, it has credit, and no flush is in progress. -/
def Port.eligible (p : Port) (c : ClassId) : Bool :=
  !p.queues.lists[c].isEmpty && decide (1 ≤ (p.credit.available c).toNat) && !p.queues.flushing

/-- R142: the position advances and the counter is loaded with the weight of the new class. -/
def Scheduler.advance (x : Scheduler) (weight : RoundRobin → Nat) : Scheduler :=
  { x with position := x.position.next, grant := weight x.position.next }

/-- R143: the scheduler after the examination, and the class it selects, if any; at most n classes are examined. -/
def Scheduler.examine (eligible : ClassId → Bool) (weight : RoundRobin → Nat) : Nat → Scheduler → Scheduler × Option RoundRobin
  | 0, x => (x, none)
  | n + 1, x =>
    if eligible x.position.toClass then
      (if x.grant ≤ 1 then x.advance weight else { x with grant := x.grant - 1 }, some x.position)
    else Scheduler.examine eligible weight n (x.advance weight)

/-- R142: the weights. -/
def State.weight (s : State) (k : RoundRobin) : Nat := s.param (.weight k)

/-- R143: the outcome of the round robin on a link. -/
def State.roundRobin (s : State) (l : LinkId) : Scheduler × Option RoundRobin :=
  Scheduler.examine (s.port l).eligible s.weight 3 (s.port l).sched

/-! ## What follows a selection -/

/-- R129: S of a class rises by 1, modulo 256. -/
def Port.countSent (p : Port) (c : ClassId) : Port :=
  { p with credit := { p.credit with sent := p.credit.sent.set c (p.credit.sent[c] + 1) } }

/-- R103, R129, R141, R143: the head of a class's queue is sent: the cell is handed to the transmitter, the descriptor leaves
its queue, S rises, and an empty total is reported (R104). -/
def State.sendData (s : State) (l : LinkId) (c : ClassId) : State :=
  match (s.port l).queues.lists[c] with
  | [] => s
  | slot :: rest =>
    ((((s.hand l (s.headCell l c)).removeHead l c slot rest).modPort l fun p => p.countSent c)).tellQueuesEmpty l

/-- R136, R137: the FLOW cell is built and the link's FLOW-due clears. -/
def State.sendFlow (s : State) (l : LinkId) : State :=
  (s.hand l (some s.flowCell)).modPort l fun p => { p with flowDue := false }

/-- R138: the head of the control queue is sent. -/
def State.sendControl (s : State) (l : LinkId) (x : ControlCell) (rest : List ControlCell) : State :=
  (s.hand l (some x.cell)).modPort l fun p => { p with sched := { p.sched with control := rest } }

/-- R136, R143, R144: classes 1 to 3 by the round robin, or IDLE. -/
def State.sendRoundRobin (s : State) (l : LinkId) : State :=
  let t := s.modPort l fun p => { p with sched := (s.roundRobin l).1 }
  match (s.roundRobin l).2 with
  | some k => t.sendData l k.toClass
  | none => t.hand l (some (t.idleCell l))

/-- R136: the selection on a link in UP or DRAINING. -/
def State.select (s : State) (l : LinkId) : State :=
  if (s.port l).flowDue then s.sendFlow l
  else
    match (s.port l).sched.control with
    | x :: rest => s.sendControl l x rest
    | [] => if (s.port l).eligible 0 then s.sendData l 0 else s.sendRoundRobin l

/-- R135, R146: the readiness of a link's transmitter. -/
def State.ready (s : State) (l : LinkId) : State :=
  match (s.port l).unit.state with
  | .off => s.hand l none
  | .blank | .seek | .qualify => s.hand l (some (s.idleCell l))
  | .test => s.sendTest l
  | .fault => s.hand l (s.faultCell l)
  | .up | .draining => (s.countLink l .txCells).select l

/-- TRANSMIT_READY (R135). While RESET_N is low the previous cell has left and none is handed: the transmitter is silent (R191,
log entry 22). -/
def execTransmitReady (l : LinkId) (s : State) : Host.Outcome State Fault Refusal :=
  .next (if s.inReset then s.hand l none else s.ready l)

end Sys2Proof.Machine
end

