-- ==== Sys2Proof/Machine/Operands.lean ====
section
/-! DEFINITION. The fields of a management request (R13), its commands and objects (R13, R170), and the layout of every
object's entry as it is read and as it is written (R24, R50, R51, R84, R161, R173 to R177, R198). -/

namespace Sys2Proof.Machine

/-! ## Requests (R13) -/

/-- R13, R193: the fields of a request or of a boot record; DATA as long as it came. -/
structure Fields where
  tag     : Byte
  command : Byte
  object  : Byte
  index   : Half
  count   : Byte
  arg     : Byte
  data    : List Byte
  deriving DecidableEq, Repr

/-- R13: the fields of an entry of the request queue. -/
def Request.fields (r : Request) : Fields :=
  let b := r.body.toList
  { tag := byteAt b 1, command := byteAt b 2, object := byteAt b 3, index := halfAt b 4, count := byteAt b 6, arg := byteAt b 7,
    data := b.drop 8 }

/-- R13: the commands. -/
inductive Command where
  | read
  | write
  | readClear
  | commit
  | cancelCommit
  | linkEnable
  | linkDisable
  | linkTest
  | setEpoch
  | closeConfig
  | softReset
  | echo
  deriving DecidableEq, Repr

/-- R13: the command of a code; any other code is an unknown command. -/
def commandOf (b : Byte) : Option Command :=
  match b.toNat with
  | 0x01 => some .read
  | 0x02 => some .write
  | 0x03 => some .readClear
  | 0x10 => some .commit
  | 0x11 => some .cancelCommit
  | 0x20 => some .linkEnable
  | 0x21 => some .linkDisable
  | 0x22 => some .linkTest
  | 0x30 => some .setEpoch
  | 0x40 => some .closeConfig
  | 0x41 => some .softReset
  | 0x7E => some .echo
  | _ => none

/-- R13: the objects; the six route objects name a set. -/
inductive Object where
  | config
  | portMap
  | dest (set : RouteSetId)
  | group (set : RouteSetId)
  | linkStatus
  | counters
  | flags
  | masks
  | commitStatus
  | epochStatus
  | bootStatus
  | identity
  deriving DecidableEq, Repr

/-- R13: the object of a code; any other code is an unknown object. -/
def objectOf (b : Byte) : Option Object :=
  match b.toNat with
  | 0x01 => some .config
  | 0x02 => some .portMap
  | 0x03 => some (.dest .stageA)
  | 0x04 => some (.dest .stageB)
  | 0x05 => some (.dest .active)
  | 0x06 => some (.group .stageA)
  | 0x07 => some (.group .stageB)
  | 0x08 => some (.group .active)
  | 0x09 => some .linkStatus
  | 0x0A => some .counters
  | 0x0B => some .flags
  | 0x0C => some .masks
  | 0x0D => some .commitStatus
  | 0x0E => some .epochStatus
  | 0x0F => some .bootStatus
  | 0x10 => some .identity
  | _ => none

/-- R170, R198: the entry size in bytes. -/
def Object.size : Object → Nat
  | .config => 2
  | .portMap => 10
  | .dest _ => 6
  | .group _ => 34
  | .linkStatus => 32
  | .counters => 4
  | .flags => 4
  | .masks => 4
  | .commitStatus => 18
  | .epochStatus => 8
  | .bootStatus => 12
  | .identity => 8

/-- R170: the entries per request. -/
def Object.perRequest : Object → Nat
  | .config => 27
  | .portMap => 5
  | .dest _ => 9
  | .group _ => 1
  | .linkStatus => 1
  | .counters => 13
  | .flags => 13
  | .masks => 1
  | .commitStatus => 1
  | .epochStatus => 1
  | .bootStatus => 1
  | .identity => 1

/-- R170, R176: the number of entries; for COUNTERS as ARG names a link or 255. -/
def Object.entries (arg : Byte) : Object → Nat
  | .config => 30
  | .portMap => 64
  | .dest _ => 120
  | .group _ => 512
  | .linkStatus => 64
  | .counters => if arg = 255 then 6 else 16
  | .flags => 65
  | .masks => 1
  | .commitStatus => 1
  | .epochStatus => 1
  | .bootStatus => 1
  | .identity => 1

/-- R170: the object takes WRITE. -/
def Object.writable : Object → Bool
  | .config | .portMap | .dest _ | .group _ | .masks => true
  | .linkStatus | .counters | .flags | .commitStatus | .epochStatus | .bootStatus | .identity => false

/-- R170: the object takes READ_CLEAR. -/
def Object.clearable : Object → Bool
  | .counters | .flags => true
  | .config | .portMap | .dest _ | .group _ | .linkStatus | .masks | .commitStatus | .epochStatus | .bootStatus | .identity =>
    false

/-- R169, cases 5 and 6: a refusal for COUNT (BAD_VALUE) or for the range (BAD_INDEX). -/
def Fields.shapeRefusal (f : Fields) (o : Object) : Option Status :=
  if f.count.toNat = 0 ∨ o.perRequest < f.count.toNat then some .badValue
  else if o = .counters ∧ 64 ≤ f.arg.toNat ∧ f.arg ≠ 255 then some .badIndex
  else if o.entries f.arg < f.index.toNat + f.count.toNat then some .badIndex
  else none

/-- The DATA bytes of entry k (R170). -/
def Fields.entry (f : Fields) (o : Object) (k : Nat) : List Byte := field f.data (k * o.size) o.size

/-! ## Numeric values (R173, R174) -/

/-- R173: clamped to the nearest bound. -/
def clamp (lo hi n : Nat) : Nat := max lo (min hi n)

/-- R173, R174: how a written parameter is judged. -/
inductive ParamKind where
  | numeric (lo hi : Nat)
  | codes (last : Nat)
  | link
  deriving DecidableEq, Repr

/-- R174: the kind of the parameter at an index. -/
def paramKind (i : Nat) : ParamKind :=
  if i < 4 then .numeric 0 7
  else if i < 12 then .numeric 1 1024
  else if i < 15 then .numeric 1 15
  else if i = 15 then .numeric 0 4095
  else if i = 16 then .numeric 1 4096
  else if i = 17 then .codes 2
  else if i = 18 then .numeric 0 255
  else if i = 19 then .numeric 1 63
  else if i = 20 then .numeric 0 63
  else if i = 21 then .numeric 4 64
  else if i = 22 then .codes 1
  else if i = 23 then .numeric 0 15
  else if i = 24 then .numeric 1 255
  else if i = 25 then .numeric 16 65535
  else if i = 26 then .codes 3
  else if i = 28 then .numeric 0 64
  else .link

/-- R173: the value stored for a written one; none when it is structurally impossible. -/
def ParamKind.judge (v : Nat) : ParamKind → Option Nat
  | .numeric lo hi => some (clamp lo hi v)
  | .codes last => if v ≤ last then some v else none
  | .link => if v < 64 ∨ v = 255 then some v else none

/-- R174: the two pairings. -/
def pairingsHold (p : Params) : Bool :=
  (allClasses.all fun c => decide (paramValue p (.xoffLo c) < paramValue p (.xoffHi c))) &&
  decide (paramValue p .fPanic < paramValue p .fResume)

/-- R173: the written values judged and stored one by one from index `i`; none when one is impossible. -/
def storeParams (p : Params) (i : Nat) : List Nat → Option Params
  | [] => some p
  | v :: rest =>
    match (paramKind i).judge v with
    | none => none
    | some w => if h : i < 30 then storeParams (p.set i (BitVec.ofNat 16 w)) (i + 1) rest else none

/-- R173: the values a WRITE of CONFIG carries. -/
def Fields.configValues (f : Fields) : List Nat := (List.range f.count.toNat).map fun k => (halfAt f.data (2 * k)).toNat

/-! ## Port Map entries (R24) -/

/-- R24: a Port Map entry as it is read. -/
def PortMapEntry.bytes (e : PortMapEntry) : List Byte :=
  [e.expectId, e.expectLink, if e.mgmtAllowed then 1 else 0, (match e.recovery with | .manual => 0 | .auto => 1),
   (match e.squelch with | .idle => 0 | .marker => 1 | .silent => 2), e.holdDown, e.flapLimit, e.errorLimit, e.creditMax,
   e.drainLimit]

/-- R24: an expected identity or link number is possible: 0 to 63, or ANY. -/
def expectPossible (b : Byte) : Bool := decide (b.toNat < 64) || b == 255

/-- A numeric byte clamped (R173). -/
def clampByte (lo hi : Nat) (b : Byte) : Byte := natByte (clamp lo hi b.toNat)

/-- R24: a Port Map entry from its 10 bytes, the numeric fields clamped; none when a field is impossible. -/
def parsePortMap (b : List Byte) : Option PortMapEntry :=
  if expectPossible (byteAt b 0) ∧ expectPossible (byteAt b 1) ∧ (byteAt b 2).toNat ≤ 1 ∧ (byteAt b 3).toNat ≤ 1 ∧
      (byteAt b 4).toNat ≤ 2 then
    some
      { expectId := byteAt b 0, expectLink := byteAt b 1, mgmtAllowed := byteAt b 2 == 1,
        recovery := if byteAt b 3 = 1 then .auto else .manual,
        squelch := if byteAt b 4 = 0 then .idle else if byteAt b 4 = 1 then .marker else .silent,
        holdDown := clampByte 1 255 (byteAt b 5), flapLimit := clampByte 0 15 (byteAt b 6), errorLimit := byteAt b 7,
        creditMax := clampByte 1 128 (byteAt b 8), drainLimit := clampByte 1 255 (byteAt b 9) }
  else none

/-! ## Route entries (R50, R51, R53) -/

/-- R50, R56: a Destination entry as it is read: the contents as stored, with the bad mark and the spray pointer. -/
def destBytes (e : DestContents) (bad : Bool) (pointer : Nat) : List Byte :=
  [bitAt e.valid 0 ||| bitAt bad 1 ||| (natByte pointer <<< 4), e.count] ++ e.members.toList

/-- R51, R56: a Group entry as it is read. -/
def groupBytes (e : GroupContents) (bad : Bool) : List Byte :=
  [bitAt e.valid 0 ||| bitAt e.echo 1 ||| bitAt bad 2, e.count] ++ e.members.toList

/-- R53: no two members equal. -/
def distinct : List Byte → Bool
  | [] => true
  | b :: rest => !rest.contains b && distinct rest

/-- R53: the members rise strictly. -/
def rising : List Byte → Bool
  | a :: b :: rest => decide (a.toNat < b.toNat) && rising (b :: rest)
  | [_] | [] => true

/-- R50, R53: a Destination entry from its 6 bytes; none when it is refused BAD_VALUE. -/
def parseDest (b : List Byte) : Option DestContents :=
  if !(byteAt b 0).getLsbD 0 then some destInvalid
  else
    let count := byteAt b 1
    let members := field b 2 count.toNat
    if 1 ≤ count.toNat ∧ count.toNat ≤ 4 ∧ (members.all fun m => decide (m.toNat < 64)) ∧ distinct members then
      some { valid := true, count := count, members := bytesVec 4 members }
    else none

/-- R51, R53: a Group entry from its 34 bytes; none when it is refused BAD_VALUE. -/
def parseGroup (b : List Byte) : Option GroupContents :=
  if !(byteAt b 0).getLsbD 0 then some groupInvalid
  else
    let count := byteAt b 1
    let members := field b 2 count.toNat
    if 1 ≤ count.toNat ∧ count.toNat ≤ 32 ∧ (members.all fun m => decide (m.toNat < 120)) ∧ rising members then
      some { valid := true, echo := (byteAt b 0).getLsbD 1, count := count, members := bytesVec 32 members }
    else none

/-! ## Status objects -/

/-- R175: the LINK_STATUS record of a link. -/
def State.linkStatusBytes (s : State) (l : LinkId) : List Byte :=
  let p := s.port l
  let u := p.unit
  [natByte l.val, u.state.code,
   bitAt p.queues.flushing 0 ||| bitAt u.signal 1 ||| bitAt u.aligned 2 ||| bitAt u.qualified 3 |||
     bitAt p.queues.xoff[0] 4 ||| bitAt p.queues.xoff[1] 5 ||| bitAt p.queues.xoff[2] 6 ||| bitAt p.queues.xoff[3] 7,
   (match u.lastFault with | none => 0 | some r => r.cause.code)] ++
  bytes16 (match u.lastFault with | none => 0 | some r => r.epoch) ++
  [natByte u.flapCount, 0] ++
  (allClasses.flatMap fun c => natHalf p.queues.lists[c].length) ++
  (allClasses.map fun c => p.credit.available c) ++ p.credit.granted.toList ++ p.credit.sent.toList ++ [0, 0, 0, 0]

/-- R176: a per-link counter by index; 15 is TEST_ERRORS. -/
def Port.counterAt (p : Port) (i : Nat) : BitVec 32 := if h : i < 15 then p.counters[i] else p.testErrors.setWidth 32

/-- R176: counter `i` of the group that ARG names. -/
def State.counterBytes (s : State) (arg : Byte) (i : Nat) : List Byte :=
  match linkOfByte arg with
  | some l => bytes32 ((s.port l).counterAt i)
  | none => if h : i < 6 then bytes32 s.elementCounters[i] else [0, 0, 0, 0]

/-- R176: entry 0 of FLAGS, or the entry n + 1 of link n. -/
def State.flagBytes (s : State) (i : Nat) : List Byte :=
  if i = 0 then bytes16 s.notice.flags ++ [s.notice.resetKind.code, 0]
  else if h : i - 1 < 64 then [(s.port ⟨i - 1, h⟩).flags.setWidth 8, 0, 0, 0]
  else [0, 0, 0, 0]

/-- R176: the MASKS entry. -/
def State.maskBytes (s : State) : List Byte := bytes16 s.notice.elementMasks ++ [s.notice.linkMasks.setWidth 8, 0]

/-- R84: the bits of the stage and of NOW. -/
def CommitRequest.bits (r : CommitRequest) : Byte := bitAt (r.stage == .b) 0 ||| bitAt r.now 1

/-- R82: the code of an outcome. -/
def CommitOutcome.code : CommitOutcome → Byte
  | .done => 1
  | .checkFailed _ => 2
  | .late => 3
  | .abandoned => 4
  | .cancelled => 5

/-- R84: FAIL_TABLE and FAIL_INDEX of an outcome. -/
def CommitOutcome.failBytes : CommitOutcome → List Byte
  | .checkFailed (.dest d) => 1 :: natHalf d.val
  | .checkFailed (.group g) => 2 :: natHalf g.val
  | .done | .late | .abandoned | .cancelled => [0, 0, 0]

/-- R84: bytes 0 to 5 of COMMIT_STATUS. -/
def CommitState.bytes : CommitState → List Byte
  | .idle => [0, 0, 0, 0, 0, 0]
  | .checking r position _ => [1, r.bits] ++ bytes16 r.target ++ natHalf position
  | .armed r => [2, r.bits] ++ bytes16 r.target ++ natHalf Config.routePositions

/-- R84: the COMMIT_STATUS entry. -/
def State.commitStatusBytes (s : State) : List Byte :=
  s.commit.state.bytes ++
  (match s.commit.record with
    | none => List.replicate 10 0
    | some r => [1, r.request.bits] ++ bytes16 r.request.target ++ [r.outcome.code] ++ r.outcome.failBytes ++ bytes16 r.epoch) ++
  natHalf s.commit.scrub.val

/-- R161: the EPOCH_STATUS entry. -/
def State.epochStatusBytes (s : State) : List Byte :=
  bytes16 s.epoch.count ++
  [s.epoch.sync.code, natByte s.epoch.missRun, bitAt s.epoch.pending.isSome 0 ||| bitAt (s.epoch.monitor == .stuck) 1] ++
  bytes16 (s.epoch.pending.getD 0) ++ [natByte (s.param .epochSource)]

/-- R198: the BOOT_STATUS entry. -/
def State.bootStatusBytes (s : State) : List Byte :=
  let b := s.boot
  [b.state.code, b.cause.code, bitAt b.bootSel 0 ||| bitAt b.failInApply 1 ||| bitAt b.firstBad.isSome 2, natByte b.arbRun] ++
  natHalf b.taken ++ natHalf b.refused ++
  (match b.firstBad with
    | none => [0, 0, 0]
    | some x => natHalf x.1 ++ [x.2.code]) ++ [0]

/-- R177: the IDENTITY entry. -/
def State.identityBytes (s : State) : List Byte :=
  bytes16 Config.deviceCode ++
  [Config.revision, s.identityByte, (match s.agent.phase with | .config => 0 | .run => 1),
   (match s.agent.lastDiscard with | none => 0 | some x => x.1.code),
   (match s.agent.lastDiscard with | none => 0 | some x => natByte x.2.val), natByte s.agent.requests.length]

/-- R170, R171: entry `i` of an object as it is read. -/
def State.readEntry (s : State) (o : Object) (arg : Byte) (i : Nat) : List Byte :=
  match o with
  | .config => if h : i < 30 then bytes16 s.agent.params[i] else []
  | .portMap => if h : i < 64 then (s.port ⟨i, h⟩).map.bytes else []
  | .dest set =>
    if h : i < 120 then
      destBytes (s.routes.get set).dest[i].contents (set == .active && s.routes.destBad[i])
        (if set == .active then s.routes.pointer[i].val else 0)
    else []
  | .group set =>
    if h : i < 512 then groupBytes (s.routes.get set).group[i].contents (set == .active && s.routes.groupBad[i]) else []
  | .linkStatus => if h : i < 64 then s.linkStatusBytes ⟨i, h⟩ else []
  | .counters => s.counterBytes arg i
  | .flags => s.flagBytes i
  | .masks => s.maskBytes
  | .commitStatus => s.commitStatusBytes
  | .epochStatus => s.epochStatusBytes
  | .bootStatus => s.bootStatusBytes
  | .identity => s.identityBytes

/-- R171: the entries a READ returns, in index order. -/
def State.readData (s : State) (f : Fields) (o : Object) : List Byte :=
  (List.range f.count.toNat).flatMap fun k => s.readEntry o f.arg (f.index.toNat + k)

end Sys2Proof.Machine
end

