-- ==== Sys2Proof/Machine/Requests.lean ====
section
/-! DEFINITION. Judging and applying a request (spec/09_management_requests.md, R169 to R174), and the service of the head of
the request queue (R166, R167). Boot records are judged by the same definitions (R195). -/

namespace Sys2Proof.Machine

/-! ## Kinds of request -/

/-- The rows of the table whose step is the service of a request. -/
inductive ServiceKind where
  | read
  | readClear
  | write
  | writeConfig
  | writePortMap
  | writeStage
  | writeActive
  | writeMasks
  | commit
  | commitNow
  | cancelCommit
  | linkEnable
  | linkDisableNow
  | linkDisableDrain
  | linkTest
  | setEpoch
  | closeConfig
  | softReset
  | echo
  | unknownCommand
  deriving DecidableEq, Repr

/-- The row of a WRITE, by its object. -/
def writeKind : Option Object → ServiceKind
  | some .config => .writeConfig
  | some .portMap => .writePortMap
  | some (.dest .active) | some (.group .active) => .writeActive
  | some (.dest .stageA) | some (.dest .stageB) | some (.group .stageA) | some (.group .stageB) => .writeStage
  | some .masks => .writeMasks
  | some .linkStatus | some .counters | some .flags | some .commitStatus | some .epochStatus | some .bootStatus
  | some .identity | none => .write

/-- The row whose step serves a request: by COMMAND, for a WRITE by OBJECT, for COMMIT by NOW and for LINK_DISABLE by the mode
(an ARG that is neither mode is judged, and refused, in the row of LINK_DISABLE NOW). -/
def Fields.kind (f : Fields) : ServiceKind :=
  match commandOf f.command with
  | some .read => .read
  | some .write => writeKind (objectOf f.object)
  | some .readClear => .readClear
  | some .commit => if f.arg.getLsbD 1 then .commitNow else .commit
  | some .cancelCommit => .cancelCommit
  | some .linkEnable => .linkEnable
  | some .linkDisable => if f.arg = 1 then .linkDisableDrain else .linkDisableNow
  | some .linkTest => .linkTest
  | some .setEpoch => .setEpoch
  | some .closeConfig => .closeConfig
  | some .softReset => .softReset
  | some .echo => .echo
  | none => .unknownCommand

/-- R169: what comes of judging a request: the state after it, its status and the DATA it returns. -/
structure Served where
  state  : State
  status : Status
  data   : List Byte

/-- R169: a refused request changes nothing. -/
def refuse (s : State) (status : Status) : Served := { state := s, status := status, data := [] }

/-- R169: a taken request is answered OK. -/
def taken (s : State) : Served := { state := s, status := .ok, data := [] }

/-! ## READ and READ_CLEAR (R171, R172) -/

/-- READ (R169, R171). -/
def judgeRead (f : Fields) (s : State) : Served :=
  match objectOf f.object with
  | none => refuse s .badObject
  | some o =>
    match f.shapeRefusal o with
    | some status => refuse s status
    | none => { state := s, status := .ok, data := s.readData f o }

/-- R172: a per-link counter cleared by index; 15 is TEST_ERRORS. -/
def Port.clearCounter (p : Port) (i : Nat) : Port :=
  if h : i < 15 then { p with counters := p.counters.set i 0 } else { p with testErrors := 0 }

/-- R172: counter `i` of the group that ARG names cleared. -/
def State.clearCounter (s : State) (arg : Byte) (i : Nat) : State :=
  match linkOfByte arg with
  | some l => s.modPort l fun p => p.clearCounter i
  | none => if h : i < 6 then { s with elementCounters := s.elementCounters.set i 0 } else s

/-- R172, R176: an entry of FLAGS cleared; clearing RESET_SEEN returns the reset kind to 0. -/
def State.clearFlags (s : State) (i : Nat) : State :=
  if i = 0 then { s with notice := { s.notice with flags := 0, resetKind := .none } }
  else if h : i - 1 < 64 then s.modPort ⟨i - 1, h⟩ fun p => { p with flags := 0 }
  else s

/-- R172: an entry of COUNTERS or of FLAGS cleared. -/
def State.clearEntry (s : State) (o : Object) (arg : Byte) (i : Nat) : State :=
  match o with
  | .counters => s.clearCounter arg i
  | .flags => s.clearFlags i
  | .config | .portMap | .dest _ | .group _ | .linkStatus | .masks | .commitStatus | .epochStatus | .bootStatus | .identity => s

/-- R172: the entries a READ_CLEAR returns are cleared. -/
def State.clearEntries (s : State) (f : Fields) (o : Object) : State :=
  (List.range f.count.toNat).foldl (fun t k => t.clearEntry o f.arg (f.index.toNat + k)) s

/-- READ_CLEAR (R169, R172). -/
def judgeReadClear (f : Fields) (s : State) : Served :=
  match objectOf f.object with
  | none => refuse s .badObject
  | some o =>
    if !o.clearable then refuse s .badObject
    else
      match f.shapeRefusal o with
      | some status => refuse s status
      | none => { state := s.clearEntries f o, status := .ok, data := s.readData f o }

/-! ## WRITE -/

/-- WRITE of an object with no write rule of its own (R169, R170). -/
def judgeWriteOther (f : Fields) (s : State) : Served :=
  match objectOf f.object with
  | none => refuse s .badObject
  | some _ => refuse s .readOnly

/-- The values in order, when there is one for each entry. -/
def allSome {α : Type} : List (Option α) → Option (List α)
  | [] => some []
  | none :: _ => none
  | some a :: rest =>
    match allSome rest with
    | none => none
    | some as => some (a :: as)

/-- R169, R173: the entries of a WRITE parsed. -/
def Fields.parsed {α : Type} (f : Fields) (o : Object) (parse : List Byte → Option α) : Option (List α) :=
  allSome ((List.range f.count.toNat).map fun k => parse (f.entry o k))

/-- R173: a WRITE of CONFIG covers a parameter. -/
def Fields.covers (f : Fields) (k : Param) : Bool :=
  decide (f.index.toNat ≤ k.index.val) && decide (k.index.val < f.index.toNat + f.count.toNat)

/-- R107: the XOFF flags after a write that covers thresholds of some classes. -/
def State.xoffWritten (s : State) (f : Fields) : State :=
  allClasses.foldl (fun t c => if f.covers (.xoffHi c) || f.covers (.xoffLo c) then t.xoffReevaluateClass c else t) s

/-- R108: the global congestion flag after a write that covers F_PANIC or F_RESUME. -/
def State.congestionWritten (s : State) (f : Fields) : State :=
  if f.covers .fPanic || f.covers .fResume then s.evalCongestion else s

/-- R150, R158: the epoch unit after a write that covers EPOCH_SOURCE or SYNC_LINK. -/
def State.epochWritten (s : State) (f : Fields) : State :=
  let t := if f.covers .epochSource then s.modEpoch fun e => e.sourceWritten (s.param .epochSource) else s
  if f.covers .syncLink then t.modEpoch fun e => e.syncLinkWritten (s.param .epochSource) else t

/-- R173: a taken WRITE of CONFIG: the parameters take their values and act as their owning rules give. -/
def State.applyConfig (s : State) (f : Fields) (p : Params) : State :=
  ((({ s with agent := { s.agent with params := p } } : State).xoffWritten f).congestionWritten f).epochWritten f

/-- WRITE of CONFIG (R169, R173, R174): in RUN a range that covers a fixed parameter (index 0 to 26) is refused PHASE. -/
def judgeWriteConfig (f : Fields) (s : State) : Served :=
  match f.shapeRefusal .config with
  | some status => refuse s status
  | none =>
    if s.agent.phase = .run ∧ f.index.toNat < 27 then refuse s .phase
    else
      match storeParams s.agent.params f.index.toNat f.configValues with
      | none => refuse s .badValue
      | some p => if pairingsHold p then taken (s.applyConfig f p) else refuse s .badValue

/-- R24: the links whose entries a WRITE of PORT_MAP covers. -/
def Fields.coveredLinks (f : Fields) : List LinkId :=
  allLinks.filter fun l => decide (f.index.toNat ≤ l.val) && decide (l.val < f.index.toNat + f.count.toNat)

/-- R24, R130: Port Map entries stored from link `i` on, each setting G and S of its link to 0. -/
def State.storePortMap (s : State) (i : Nat) : List PortMapEntry → State
  | [] => s
  | e :: rest =>
    if h : i < 64 then
      (s.modPort ⟨i, h⟩ fun p => { p with map := e, credit := LinkCredit.zero }).storePortMap (i + 1) rest
    else s

/-- WRITE of PORT_MAP (R24, R169). -/
def judgeWritePortMap (f : Fields) (s : State) : Served :=
  match f.shapeRefusal .portMap with
  | some status => refuse s status
  | none =>
    if !(f.coveredLinks.all fun l => (s.port l).unit.state == .off) then refuse s .busy
    else
      match f.parsed .portMap parsePortMap with
      | none => refuse s .badValue
      | some entries => taken (s.storePortMap f.index.toNat entries)

/-- R53, R55: a Destination entry written: fresh contents and check; in ACTIVE its bad mark clears and its pointer is 0. -/
def RouteStore.writeDest (r : RouteStore) (set : RouteSetId) (d : Dcn) (e : DestContents) : RouteStore :=
  let q := r.putDest set d { contents := e, intact := true }
  if set = .active then { q with destBad := q.destBad.set d false, pointer := q.pointer.set d 0 } else q

/-- R53, R55: a Group entry written; in ACTIVE its bad mark clears. -/
def RouteStore.writeGroup (r : RouteStore) (set : RouteSetId) (g : GroupId) (e : GroupContents) : RouteStore :=
  let q := r.putGroup set g { contents := e, intact := true }
  if set = .active then { q with groupBad := q.groupBad.set g false } else q

/-- R53: Destination entries stored from DCN `i` on. -/
def State.storeDests (s : State) (set : RouteSetId) (i : Nat) : List DestContents → State
  | [] => s
  | e :: rest =>
    if h : i < 120 then (s.modRoutes fun r => r.writeDest set ⟨i, h⟩ e).storeDests set (i + 1) rest else s

/-- R53: Group entries stored from group `i` on. -/
def State.storeGroups (s : State) (set : RouteSetId) (i : Nat) : List GroupContents → State
  | [] => s
  | e :: rest =>
    if h : i < 512 then (s.modRoutes fun r => r.writeGroup set ⟨i, h⟩ e).storeGroups set (i + 1) rest else s

/-- R53: the entries of a route WRITE validated together, then stored. -/
def judgeRouteContents (f : Fields) (s : State) : Object → Served
  | .dest set =>
    match f.parsed (.dest set) parseDest with
    | none => refuse s .badValue
    | some entries => taken (s.storeDests set f.index.toNat entries)
  | .group set =>
    match f.parsed (.group set) parseGroup with
    | none => refuse s .badValue
    | some entries => taken (s.storeGroups set f.index.toNat entries)
  | .config | .portMap | .linkStatus | .counters | .flags | .masks | .commitStatus | .epochStatus | .bootStatus | .identity =>
    refuse s .badObject

/-- The set of a route object. -/
def Object.routeSet : Object → Option RouteSetId
  | .dest set | .group set => some set
  | .config | .portMap | .linkStatus | .counters | .flags | .masks | .commitStatus | .epochStatus | .bootStatus | .identity =>
    none

/-- R80: a commit in progress has selected this stage. -/
def CommitUnit.selects (u : CommitUnit) (set : RouteSetId) : Bool :=
  match u.state with
  | .idle => false
  | .checking r _ _ => r.stage.set == set
  | .armed r => r.stage.set == set

/-- WRITE of a stage's table (R53, R54, R80, R169). -/
def judgeWriteStage (f : Fields) (s : State) : Served :=
  match objectOf f.object with
  | none => refuse s .badObject
  | some o =>
    match f.shapeRefusal o with
    | some status => refuse s status
    | none =>
      if o.routeSet.any s.commit.selects then refuse (s.latch .stageBusyWrite) .busy else judgeRouteContents f s o

/-- WRITE of a table of ACTIVE (R53, R55, R169). -/
def judgeWriteActive (f : Fields) (s : State) : Served :=
  match objectOf f.object with
  | none => refuse s .badObject
  | some o =>
    match f.shapeRefusal o with
    | some status => refuse s status
    | none => if s.agent.phase = .run then refuse s .phase else judgeRouteContents f s o

/-- WRITE of MASKS (R176, R183): all 21 masks at once. -/
def judgeWriteMasks (f : Fields) (s : State) : Served :=
  match f.shapeRefusal .masks with
  | some status => refuse s status
  | none =>
    taken { s with notice := { s.notice with elementMasks := halfAt f.data 0, linkMasks := (byteAt f.data 2).setWidth 5 } }

/-! ## Commands without objects -/

/-- R71: the stage that bit 0 of ARG names. -/
def Fields.stage (f : Fields) : Stage := if f.arg.getLsbD 0 then .b else .a

/-- R71: an accepted COMMIT starts the check walk. -/
def State.startCommit (s : State) (r : CommitRequest) : State := s.modCommit fun u => { u with state := .checking r 0 none }

/-- COMMIT with a target epoch (R71). -/
def judgeCommit (f : Fields) (s : State) : Served :=
  if s.commit.state ≠ .idle then refuse s .busy
  else if ahead f.index s.epoch.count then taken (s.startCommit { stage := f.stage, now := false, target := f.index })
  else refuse s .late

/-- COMMIT with NOW (R71). -/
def judgeCommitNow (f : Fields) (s : State) : Served :=
  if s.commit.state ≠ .idle then refuse s .busy
  else taken (s.startCommit { stage := f.stage, now := true, target := 0 })

/-- The commit in progress, if there is one (R70). -/
def CommitState.inProgress : CommitState → Option CommitRequest
  | .idle => none
  | .checking r _ _ => some r
  | .armed r => some r

/-- CANCEL_COMMIT (R81). -/
def judgeCancelCommit (_f : Fields) (s : State) : Served :=
  match s.commit.state.inProgress with
  | none => refuse s .notActive
  | some r => taken (s.endCommit r .cancelled s.epoch.count)

/-- The link INDEX names, if it names one (R25, R37, R45). -/
def Fields.link (f : Fields) : Option LinkId := if h : f.index.toNat < 64 then some ⟨f.index.toNat, h⟩ else none

/-- LINK_ENABLE (R25). -/
def judgeLinkEnable (f : Fields) (s : State) : Served :=
  match f.link with
  | none => refuse s .badIndex
  | some l => if (s.port l).unit.state = .off then taken (s.enterBlank l) else refuse s .busy

/-- LINK_DISABLE with mode NOW (R37); an ARG that is neither mode is refused BAD_VALUE. -/
def judgeLinkDisableNow (f : Fields) (s : State) : Served :=
  match f.link with
  | none => refuse s .badIndex
  | some l => if f.arg = 0 then taken (s.disableNow l) else refuse s .badValue

/-- LINK_DISABLE with mode DRAIN (R38). -/
def judgeLinkDisableDrain (f : Fields) (s : State) : Served :=
  match f.link with
  | none => refuse s .badIndex
  | some l => taken (s.disableDrain l)

/-- LINK_TEST (R45). -/
def judgeLinkTest (f : Fields) (s : State) : Served :=
  match f.link with
  | none => refuse s .badIndex
  | some l =>
    if (s.port l).unit.state = .off ∧ (s.port l).queues.flushing = false then taken (s.modPort l Port.toTest)
    else refuse s .busy

/-- SET_EPOCH (R160). -/
def judgeSetEpoch (f : Fields) (s : State) : Served := taken (s.modEpoch fun e => { e with pending := some f.index })

/-- CLOSE_CONFIG (R168). -/
def judgeCloseConfig (_f : Fields) (s : State) : Served :=
  if s.agent.phase = .config then taken { s with agent := { s.agent with phase := .run } } else refuse s .phase

/-- ECHO (R178). -/
def judgeEcho (f : Fields) (s : State) : Served := { state := s, status := .ok, data := f.data }

/-- An unknown COMMAND (R169). -/
def judgeUnknownCommand (_f : Fields) (s : State) : Served := refuse s .badCommand

/-! ## Service (R166, R167) -/

/-- R167: the response placed in the control queue of the arrival link, or dropped and counted. -/
def State.respond (s : State) (r : Request) (status : Status) (data : List Byte) : State :=
  if (s.port r.link).takesControl then
    s.placeControl r.link
      { kind := .response
        cell := s.responseCell r.context r.fields.tag r.fields.command status r.fields.index r.fields.count r.fields.arg data }
  else s.countElement .responseDrops

/-- R166: the head of the request queue removed. -/
def State.dropRequest (s : State) (rest : List Request) : State := { s with agent := { s.agent with requests := rest } }

/-- R166: the service of the head entry, when it is a request of this row's kind: removed, judged and applied, answered. -/
def serve (kind : ServiceKind) (judge : Fields → State → Served) (s : State) : State :=
  match s.agent.requests with
  | [] => s
  | r :: rest =>
    if r.fields.kind = kind then
      let v := judge r.fields (s.dropRequest rest)
      v.state.respond r v.status v.data
    else s

/-- READ (R171). -/
def execRead : State → Host.Outcome State Fault Refusal := act (serve .read judgeRead)

/-- READ_CLEAR (R172). -/
def execReadClear : State → Host.Outcome State Fault Refusal := act (serve .readClear judgeReadClear)

/-- WRITE (R169). -/
def execWrite : State → Host.Outcome State Fault Refusal := act (serve .write judgeWriteOther)

/-- WRITE_CONFIG (R173). -/
def execWriteConfig : State → Host.Outcome State Fault Refusal := act (serve .writeConfig judgeWriteConfig)

/-- WRITE_PORT_MAP (R24). -/
def execWritePortMap : State → Host.Outcome State Fault Refusal := act (serve .writePortMap judgeWritePortMap)

/-- WRITE_STAGE (R54, R80). -/
def execWriteStage : State → Host.Outcome State Fault Refusal := act (serve .writeStage judgeWriteStage)

/-- WRITE_ACTIVE (R55). -/
def execWriteActive : State → Host.Outcome State Fault Refusal := act (serve .writeActive judgeWriteActive)

/-- WRITE_MASKS (R183). -/
def execWriteMasks : State → Host.Outcome State Fault Refusal := act (serve .writeMasks judgeWriteMasks)

/-- COMMIT (R71). -/
def execCommit : State → Host.Outcome State Fault Refusal := act (serve .commit judgeCommit)

/-- COMMIT_NOW (R71). -/
def execCommitNow : State → Host.Outcome State Fault Refusal := act (serve .commitNow judgeCommitNow)

/-- CANCEL_COMMIT (R81). -/
def execCancelCommit : State → Host.Outcome State Fault Refusal := act (serve .cancelCommit judgeCancelCommit)

/-- LINK_ENABLE (R25). -/
def execLinkEnable : State → Host.Outcome State Fault Refusal := act (serve .linkEnable judgeLinkEnable)

/-- LINK_DISABLE_NOW (R37). -/
def execLinkDisableNow : State → Host.Outcome State Fault Refusal := act (serve .linkDisableNow judgeLinkDisableNow)

/-- LINK_DISABLE_DRAIN (R38). -/
def execLinkDisableDrain : State → Host.Outcome State Fault Refusal := act (serve .linkDisableDrain judgeLinkDisableDrain)

/-- LINK_TEST (R45). -/
def execLinkTest : State → Host.Outcome State Fault Refusal := act (serve .linkTest judgeLinkTest)

/-- SET_EPOCH (R160). -/
def execSetEpoch : State → Host.Outcome State Fault Refusal := act (serve .setEpoch judgeSetEpoch)

/-- CLOSE_CONFIG (R168). -/
def execCloseConfig : State → Host.Outcome State Fault Refusal := act (serve .closeConfig judgeCloseConfig)

/-- ECHO (R178). -/
def execEcho : State → Host.Outcome State Fault Refusal := act (serve .echo judgeEcho)

/-- UNKNOWN_COMMAND (R169). -/
def execUnknownCommand : State → Host.Outcome State Fault Refusal := act (serve .unknownCommand judgeUnknownCommand)

end Sys2Proof.Machine
end

