-- ==== Sys2Proof/Machine/Boot.lean ====
section
/-! DEFINITION. Resets and the boot loader (R179, R191 to R197). -/

namespace Sys2Proof.Machine

/-! ## Element reset (R191, R192) -/

/-- R192: the default configuration's links: each of the 64 enters BLANK. -/
def State.enableAll (s : State) : State := s.mapPorts (Port.toBlank s.blankDuration)

/-- R191, R135: one link at the reset event: its reset values, and in the transmitter the cell that was handed to it before. -/
def Port.elementReset (p : Port) : Port := { Port.reset with transmitter := p.transmitter }

/-- R191: the reset event. EPOCH_IN keeps its level, and commands that wait go on waiting. -/
def State.elementReset (s : State) (bootSel : Bool) (id : BitVec 6) : State :=
  let t := { State.afterReset bootSel id s.epoch.pinHigh s.pending with ports := s.ports.map Port.elementReset }
  if bootSel then t else t.enableAll

/-- ELEMENT_RESET (R191). -/
def execElementReset (bootSel : Bool) (id : BitVec 6) (s : State) : Host.Outcome State Fault Refusal :=
  .next (s.elementReset bootSel id)

/-- R191: RESET_N goes low: EPOCH_OUT is low, and a boot pass and its transfer are abandoned; the rest of the state waits for the
reset event. A cell that has been handed to a transmitter is sent whole (R135), and no other is handed (`execTransmitReady`). -/
def State.holdReset (s : State) : State :=
  { s with
    inReset := true
    epoch := { s.epoch with out := none }
    boot := { s.boot with image := [], offset := 0, recordIndex := 0, bus := .idle } }

/-- RESET_N_LOW (R191). -/
def execResetNLow (s : State) : Host.Outcome State Fault Refusal := .next s.holdReset

/-! ## Soft reset (R179) -/

/-- R48: the link unit's state at soft reset, BLANK from every state but OFF and TEST. -/
def Port.softLink (duration : Nat) (p : Port) : Port :=
  match p.unit.state with
  | .off => p
  | .test => { p with unit := { p.unit with state := .off, checker := .unseeded } }
  | .blank | .seek | .qualify | .up | .draining | .fault => p.toBlank duration

/-- R48, R115, R130, R133, R134, R148, R190: one link at soft reset. -/
def Port.softReset (duration weight1 : Nat) (p : Port) : Port :=
  let q := p.softLink duration
  { q with
    unit := { q.unit with lossTimer := none, holdDown := none, qualified := false, upRising := false, flapDue := false,
                          flapCount := 0, lastFault := none }
    queues := LinkQueues.reset
    credit := LinkCredit.zero
    sched := { position := .one, grant := weight1, control := [] }
    flowDue := false
    flags := 0
    counters := Vector.replicate 15 0
    testErrors := 0 }

/-- R89: a commit in progress ends CANCELLED. -/
def CommitUnit.softReset (u : CommitUnit) (epoch : Half) : CommitUnit :=
  match u.state.inProgress with
  | none => u
  | some r => { u with state := .idle, record := some { request := r, outcome := .cancelled, epoch := epoch } }

/-- R179: soft reset, every block in one event. -/
def State.softReset (s : State) : State :=
  let t := s.mapPorts (Port.softReset s.blankDuration (s.param (.weight .one)))
  { t with
    commit := s.commit.softReset s.epoch.count
    buffer := CellBuffer.reset
    flow := { s.flow with gapTimer := none, mapPending := false }
    agent := { s.agent with requests := [], lastDiscard := none }
    notice := { s.notice with flags := 1, resetKind := .soft, pending := true }
    elementCounters := Vector.replicate 6 0 }

/-- R179: SOFT_RESET at the head of the request queue is served without a response. -/
def State.serveSoftReset (s : State) : State :=
  match s.agent.requests with
  | [] => s
  | r :: _ => if r.fields.kind = .softReset then s.softReset else s

/-- SOFT_RESET (R179). -/
def execSoftReset : State → Host.Outcome State Fault Refusal := act State.serveSoftReset

/-! ## The boot image (R193) -/

/-- R193: FORMAT, LENGTH and RECORD_COUNT are within bounds. -/
def headerPossible (image : List Byte) : Bool :=
  byteAt image 0 == 1 && decide (16 ≤ (halfAt image 2).toNat) && decide ((halfAt image 2).toNat ≤ 16384) &&
  decide (1 ≤ (halfAt image 4).toNat)

/-- R193: the fields of the record that begins at a byte. -/
def recordHeader (image : List Byte) (offset : Nat) : Fields :=
  let b := image.drop offset
  { tag := 0, command := byteAt b 0, object := byteAt b 1, index := halfAt b 2, count := byteAt b 4, arg := byteAt b 5,
    data := b.drop 6 }

/-- R193: the length of a record with these fields, its 6 bytes included; none when its COMMAND is not one of the four or a
WRITE names an unknown object. -/
def Fields.recordLength (f : Fields) : Option Nat :=
  match commandOf f.command with
  | some .write =>
    match objectOf f.object with
    | some o => some (6 + f.count.toNat * o.size)
    | none => none
  | some .linkEnable | some .linkDisable | some .closeConfig => some 6
  | some .read | some .readClear | some .commit | some .cancelCommit | some .linkTest | some .setEpoch | some .softReset
  | some .echo | none => none

/-- R193: n records walked from a byte end exactly at `stop`. -/
def walkRecords (image : List Byte) (stop : Nat) : Nat → Nat → Bool
  | 0, offset => offset == stop
  | n + 1, offset =>
    if stop < offset + 6 then false
    else
      match (recordHeader image offset).recordLength with
      | none => false
      | some len => if stop < offset + len then false else walkRecords image stop n (offset + len)

/-- R193: the image of LENGTH bytes is well formed. -/
def imageWellFormed (image : List Byte) : Bool :=
  headerPossible image && walkRecords image ((halfAt image 2).toNat - 4) (halfAt image 4).toNat 6

/-- R193: the computed check agrees with CHECK. -/
def imageChecks (image : List Byte) : Bool :=
  let n := (halfAt image 2).toNat
  bytes32 (crc32 (image.take (n - 4))) == field image (n - 4) 4

/-! ## Boot failure and completion (R192, R195, R197) -/

/-- The state of the boot loader changed. -/
def State.modBoot (s : State) (f : BootLoader → BootLoader) : State := { s with boot := f s.boot }

/-- R197: one link's Port Map entry and enable mark withdrawn. -/
def Port.withdraw (p : Port) : Port := { p with map := PortMapEntry.reset, credit := LinkCredit.zero, enableMark := false }

/-- R107: every queue's flag against the thresholds in force. -/
def State.xoffReevaluateAll (s : State) : State := allClasses.foldl State.xoffReevaluateClass s

/-- R197, step 2: every change of pass two withdrawn. -/
def State.withdraw (s : State) : State :=
  let t := s.mapPorts Port.withdraw
  let u : State :=
    { t with
      routes := RouteStore.reset
      agent := { t.agent with phase := .config, params := Params.reset }
      notice := { t.notice with elementMasks := 0, linkMasks := 0 }
      epoch := t.epoch.sourceWritten 0 }
  u.xoffReevaluateAll.evalCongestion

/-- R197: a boot failure. -/
def State.bootFailure (s : State) (cause : BootCause) : State :=
  let t := (s.latch .bootFail).modBoot fun b =>
    { b with cause := cause, failInApply := b.state == .applying, state := .doneDefault, image := [], bus := .idle }
  t.withdraw.enableAll

/-- R195: one link at DONE: it enters BLANK if its enable mark is set, and the mark is cleared. -/
def Port.bootDone (duration : Nat) (p : Port) : Port :=
  if p.enableMark then { p.toBlank duration with enableMark := false } else p

/-- R195: the loader enters DONE. -/
def State.bootDone (s : State) : State :=
  (s.modBoot fun b => { b with state := .done, image := [], bus := .idle }).mapPorts (Port.bootDone s.blankDuration)

/-! ## Applying records (R195) -/

/-- A WRITE record judged as a request (R195, R169). -/
def judgeWrite (f : Fields) (s : State) : Served :=
  match writeKind (objectOf f.object) with
  | .writeConfig => judgeWriteConfig f s
  | .writePortMap => judgeWritePortMap f s
  | .writeStage => judgeWriteStage f s
  | .writeActive => judgeWriteActive f s
  | .writeMasks => judgeWriteMasks f s
  | .write | .read | .readClear | .commit | .commitNow | .cancelCommit | .linkEnable | .linkDisableNow | .linkDisableDrain
  | .linkTest | .setEpoch | .closeConfig | .softReset | .echo | .unknownCommand => judgeWriteOther f s

/-- R195: a LINK_ENABLE record sets the link's enable mark. -/
def judgeEnableRecord (f : Fields) (s : State) : Served :=
  match f.link with
  | none => refuse s .badIndex
  | some l =>
    if (s.port l).enableMark then refuse s .busy else taken (s.modPort l fun p => { p with enableMark := true })

/-- R195: a LINK_DISABLE record clears the link's enable mark. -/
def judgeDisableRecord (f : Fields) (s : State) : Served :=
  match f.link with
  | none => refuse s .badIndex
  | some l =>
    if f.arg = 0 ∨ f.arg = 1 then taken (s.modPort l fun p => { p with enableMark := false }) else refuse s .badValue

/-- R195: a record judged. -/
def judgeRecord (f : Fields) (s : State) : Served :=
  match commandOf f.command with
  | some .write => judgeWrite f s
  | some .linkEnable => judgeEnableRecord f s
  | some .linkDisable => judgeDisableRecord f s
  | some .closeConfig => judgeCloseConfig f s
  | some .read | some .readClear | some .commit | some .cancelCommit | some .linkTest | some .setEpoch | some .softReset
  | some .echo | none => refuse s .badCommand

/-- R195: the record counted as taken, or as refused with BOOT_RECORD_ERROR and, if it is the first, kept. -/
def State.countRecord (s : State) (status : Status) : State :=
  if status = .ok then s.modBoot fun b => { b with taken := b.taken + 1, recordIndex := b.recordIndex + 1 }
  else
    (s.modBoot fun b =>
      { b with refused := b.refused + 1, recordIndex := b.recordIndex + 1,
               firstBad := match b.firstBad with
                 | some x => some x
                 | none => some (b.recordIndex, status) }).latch .bootRecordError

/-- R195: one record applied, whole. -/
def State.applyRecord (s : State) (f : Fields) (len : Nat) : State :=
  let v := judgeRecord f s
  (v.state.modBoot fun b => { b with offset := b.offset + len }).countRecord v.status

/-- R195: the records that the bytes read so far complete, in image order; at most n of them. A record that disagrees with the
walk of pass one is a boot failure. -/
def State.applyRecords : Nat → State → State
  | 0, s => s
  | n + 1, s =>
    if s.boot.recordCount ≤ s.boot.recordIndex then s.bootDone
    else
      let stop := s.boot.length - 4
      if stop < s.boot.offset + 6 then s.bootFailure .badHeader
      else if s.boot.image.length < s.boot.offset + 6 then s
      else
        let f := recordHeader s.boot.image s.boot.offset
        match f.recordLength with
        | none => s.bootFailure .badHeader
        | some len =>
          if stop < s.boot.offset + len then s.bootFailure .badHeader
          else if s.boot.image.length < s.boot.offset + len then s
          else State.applyRecords n (s.applyRecord { f with data := f.data.take (len - 6) } len)

/-! ## Passes and transfers (R194, R196) -/

/-- R194: pass one, after bytes have been taken into it. -/
def State.passOne (s : State) : State :=
  let image := s.boot.image
  if image.length < 6 then s
  else if !headerPossible image then s.bootFailure .badHeader
  else
    let n := (halfAt image 2).toNat
    if image.length < n then s
    else if !imageWellFormed (image.take n) then s.bootFailure .badHeader
    else if !imageChecks (image.take n) then s.bootFailure .badCheck
    else
      s.modBoot fun b =>
        { b with state := .applying, length := n, recordCount := (halfAt image 4).toNat, image := [], offset := 6,
                 recordIndex := 0 }

/-- R195: pass two, after bytes have been taken into it. -/
def State.passTwo (s : State) : State := State.applyRecords (s.boot.recordCount - s.boot.recordIndex + 1) s

/-- R196: a transfer that succeeded: its bytes are taken into the pass, and the arbitration-loss run is 0. -/
def State.takeBytes (s : State) (bytes : List Byte) : State :=
  let t := s.modBoot fun b => { b with image := b.image ++ bytes, arbRun := 0 }
  match s.boot.state with
  | .checking => t.passOne
  | .applying => t.passTwo
  | .done | .doneDefault => s

/-- R196: arbitration lost: the run rises, and at 8 the boot fails. -/
def State.loseArbitration (s : State) : State :=
  let t := s.modBoot fun b => { b with arbRun := b.arbRun + 1, bus := .waiting }
  if Config.arbitrationLimit ≤ t.boot.arbRun then t.bootFailure .arbitration else t

/-- R196: the end of the transfer in progress; nothing when none is, or when the bytes are not those of one transfer. -/
def State.endTransfer (s : State) (r : BusResult) : State :=
  if s.boot.bus = .transferring ∧ r.possible then
    match r with
    | .success bytes => s.takeBytes bytes
    | .noAck => s.bootFailure .noAck
    | .arbitrationLost => s.loseArbitration
  else s

/-- BUS_TRANSFER_END (R196). -/
def execBusTransferEnd (r : BusResult) : State → Host.Outcome State Fault Refusal := act fun s => s.endTransfer r

/-- R196: the bus is idle, and the loader begins the lost transfer again. -/
def BootLoader.repeatTransfer (b : BootLoader) : BootLoader :=
  if b.bus = .waiting then { b with bus := .transferring } else b

/-- TRANSFER_REPEAT (R196). -/
def execTransferRepeat : State → Host.Outcome State Fault Refusal := act fun s => s.modBoot BootLoader.repeatTransfer

end Sys2Proof.Machine
end

