-- ==== Sys2Proof/Machine/Dispatch.lean ====
section
/-! DEFINITION. One arm per command: its meaning. -/

namespace Sys2Proof.Machine

def exec (i : Instr) (s : State) : Host.Outcome State Fault Refusal :=
  match i with
  | .elementReset bootSel id => Sys2Proof.Machine.execElementReset bootSel id s
  | .resetNLow => Sys2Proof.Machine.execResetNLow s
  | .signalLost l => Sys2Proof.Machine.execSignalLost l s
  | .signalRestored l => Sys2Proof.Machine.execSignalRestored l s
  | .alignmentGained l => Sys2Proof.Machine.execAlignmentGained l s
  | .alignmentLost l => Sys2Proof.Machine.execAlignmentLost l s
  | .dataUReceived l cell => Sys2Proof.Machine.execDataUReceived l cell s
  | .dataMReceived l cell => Sys2Proof.Machine.execDataMReceived l cell s
  | .flowReceived l cell => Sys2Proof.Machine.execFlowReceived l cell s
  | .mgmtReceived l cell => Sys2Proof.Machine.execMgmtReceived l cell s
  | .syncReceived l cell elapsed => Sys2Proof.Machine.execSyncReceived l cell elapsed s
  | .idleReceived l cell => Sys2Proof.Machine.execIdleReceived l cell s
  | .markerReceived l cell => Sys2Proof.Machine.execMarkerReceived l cell s
  | .testReceived l cell => Sys2Proof.Machine.execTestReceived l cell s
  | .damagedCellReceived l cell => Sys2Proof.Machine.execDamagedCellReceived l cell s
  | .unknownTypeReceived l cell => Sys2Proof.Machine.execUnknownTypeReceived l cell s
  | .storageUpset u => Sys2Proof.Machine.execStorageUpset u s
  | .blankTimerExpiry l => Sys2Proof.Machine.execBlankTimerExpiry l s
  | .lossTimerExpiry l => Sys2Proof.Machine.execLossTimerExpiry l s
  | .gapTimerExpiry => Sys2Proof.Machine.execGapTimerExpiry s
  | .timerBoundary => Sys2Proof.Machine.execTimerBoundary s
  | .holdoverBoundary => Sys2Proof.Machine.execHoldoverBoundary s
  | .epochInRisingEdge elapsed => Sys2Proof.Machine.execEpochInRisingEdge elapsed s
  | .epochInFallingEdge => Sys2Proof.Machine.execEpochInFallingEdge s
  | .stuckTimerExpiry => Sys2Proof.Machine.execStuckTimerExpiry s
  | .epochOutFall => Sys2Proof.Machine.execEpochOutFall s
  | .linkBoundaryWork l => Sys2Proof.Machine.execLinkBoundaryWork l s
  | .flapClear l => Sys2Proof.Machine.execFlapClear l s
  | .drainLimit l => Sys2Proof.Machine.execDrainLimit l s
  | .holdDownEnd l => Sys2Proof.Machine.execHoldDownEnd l s
  | .commitBoundary => Sys2Proof.Machine.execCommitBoundary s
  | .refresh => Sys2Proof.Machine.execRefresh s
  | .noticeBoundary => Sys2Proof.Machine.execNoticeBoundary s
  | .walkExamination => Sys2Proof.Machine.execWalkExamination s
  | .checkCompletion => Sys2Proof.Machine.execCheckCompletion s
  | .flushRemoval l => Sys2Proof.Machine.execFlushRemoval l s
  | .flushCompletion l => Sys2Proof.Machine.execFlushCompletion l s
  | .transmitReady l => Sys2Proof.Machine.execTransmitReady l s
  | .read => Sys2Proof.Machine.execRead s
  | .readClear => Sys2Proof.Machine.execReadClear s
  | .write => Sys2Proof.Machine.execWrite s
  | .writeConfig => Sys2Proof.Machine.execWriteConfig s
  | .writePortMap => Sys2Proof.Machine.execWritePortMap s
  | .writeStage => Sys2Proof.Machine.execWriteStage s
  | .writeActive => Sys2Proof.Machine.execWriteActive s
  | .writeMasks => Sys2Proof.Machine.execWriteMasks s
  | .commit => Sys2Proof.Machine.execCommit s
  | .commitNow => Sys2Proof.Machine.execCommitNow s
  | .cancelCommit => Sys2Proof.Machine.execCancelCommit s
  | .linkEnable => Sys2Proof.Machine.execLinkEnable s
  | .linkDisableNow => Sys2Proof.Machine.execLinkDisableNow s
  | .linkDisableDrain => Sys2Proof.Machine.execLinkDisableDrain s
  | .linkTest => Sys2Proof.Machine.execLinkTest s
  | .setEpoch => Sys2Proof.Machine.execSetEpoch s
  | .closeConfig => Sys2Proof.Machine.execCloseConfig s
  | .softReset => Sys2Proof.Machine.execSoftReset s
  | .echo => Sys2Proof.Machine.execEcho s
  | .unknownCommand => Sys2Proof.Machine.execUnknownCommand s
  | .busTransferEnd r => Sys2Proof.Machine.execBusTransferEnd r s
  | .transferRepeat => Sys2Proof.Machine.execTransferRepeat s

end Sys2Proof.Machine
end

