-- ==== Sys2Proof/Machine/Idle.lean ====
section
/-! DEFINITION. What the block does when no command waits (DESIGN CHOICE, log entry 2): the first of the events it owes, in
a fixed order, and otherwise one microsecond passes. Every other order of the same events is a queue of commands. -/

namespace Sys2Proof.Machine

/-! ## Time -/

/-- A running timer one microsecond later. -/
def tickTimer (t : Option Nat) : Option Nat := t.map (· - 1)

/-- The stuck timer one microsecond later. -/
def PinMonitor.tick : PinMonitor → PinMonitor
  | .high n => .high (n - 1)
  | .low => .low
  | .stuck => .stuck

/-- One microsecond passes: the window timer measures it, and every running timer comes nearer to its expiry. -/
def State.tick (s : State) : State :=
  let t := s.mapPorts fun p =>
    { p with unit := { p.unit with blankTimer := tickTimer p.unit.blankTimer, lossTimer := tickTimer p.unit.lossTimer } }
  { t with
    flow := { t.flow with gapTimer := tickTimer t.flow.gapTimer }
    epoch := { t.epoch with window := t.epoch.window + 1, monitor := t.epoch.monitor.tick, out := tickTimer t.epoch.out } }

/-! ## Events the block owes -/

/-- The first link with a property, in rising order. -/
def State.firstLink (s : State) (p : Port → Bool) : Option LinkId := allLinks.find? fun l => p (s.port l)

/-- A timer has come to its expiry. -/
def expired (t : Option Nat) : Bool := t == some 0

/-- The command that serves a request (R166). -/
def ServiceKind.command : ServiceKind → Instr
  | .read => .read
  | .readClear => .readClear
  | .write => .write
  | .writeConfig => .writeConfig
  | .writePortMap => .writePortMap
  | .writeStage => .writeStage
  | .writeActive => .writeActive
  | .writeMasks => .writeMasks
  | .commit => .commit
  | .commitNow => .commitNow
  | .cancelCommit => .cancelCommit
  | .linkEnable => .linkEnable
  | .linkDisableNow => .linkDisableNow
  | .linkDisableDrain => .linkDisableDrain
  | .linkTest => .linkTest
  | .setEpoch => .setEpoch
  | .closeConfig => .closeConfig
  | .softReset => .softReset
  | .echo => .echo
  | .unknownCommand => .unknownCommand

/-- What a boundary work has left to be done at once in a link unit (R36, R39, R43). -/
def State.dueCount (s : State) : Option Instr :=
  ((s.firstLink fun p => p.unit.state == .up && p.unit.flapDue).map .flapClear).orElse fun _ =>
  ((s.firstLink Port.drainDue).map .drainLimit).orElse fun _ =>
  (s.firstLink Port.holdDownDue).map .holdDownEnd

/-- A timer that has come to its expiry (R26, R33, R121, R154, R158). -/
def State.dueTimer (s : State) : Option Instr :=
  ((s.firstLink fun p => p.unit.state == .blank && expired p.unit.blankTimer).map .blankTimerExpiry).orElse fun _ =>
  ((s.firstLink fun p => p.unit.state.inService && expired p.unit.lossTimer).map .lossTimerExpiry).orElse fun _ =>
  if expired s.flow.gapTimer then some .gapTimerExpiry
  else if expired s.epoch.out then some .epochOutFall
  else if s.epoch.monitor == .high 0 then some .stuckTimerExpiry
  else none

/-- A delivered boundary not yet handled (R152). -/
def State.dueBoundary (s : State) : Option Instr :=
  ((s.firstLink fun p => p.boundaries != 0).map .linkBoundaryWork).orElse fun _ =>
  if !s.commit.boundaries.isEmpty then some .commitBoundary
  else if s.flow.boundaries != 0 then some .refresh
  else if !s.notice.boundaries.isEmpty then some .noticeBoundary
  else none

/-- The walk's next event (R72). -/
def CommitState.due : CommitState → Option Instr
  | .idle | .armed _ => none
  | .checking _ _ (some _) => some .checkCompletion
  | .checking _ position none => if position < Config.routePositions then some .walkExamination else some .checkCompletion

/-- A flush in progress: its next removal, or its completion (R110, R111). -/
def State.dueFlush (s : State) : Option Instr :=
  (s.firstLink fun p => p.queues.flushing).map fun l =>
    if (s.port l).queues.total = 0 then .flushCompletion l else .flushRemoval l

/-- The service of the request queue's head (R166). -/
def State.dueService (s : State) : Option Instr := s.agent.requests.head?.map fun r => r.fields.kind.command

/-- The window timer has reached the mark of its boundary (R151), or stands past it: a change from LOCKED or HOLDOVER to FREE or
ACQUIRING (R150, R197) can find the timer past P already, and the spec does not say when the next timer boundary then falls; the
model makes it at once (DESIGN CHOICE, log entry 23). -/
def State.dueWindow (s : State) : Option Instr :=
  match s.epoch.sync with
  | .free | .acquiring | .lost => if s.epoch.period ≤ s.epoch.window then some .timerBoundary else none
  | .locked | .holdover => if s.epoch.period + s.epoch.tol ≤ s.epoch.window then some .holdoverBoundary else none

/-- The first event the block owes. -/
def State.due (s : State) : Option Instr :=
  s.dueCount.orElse fun _ => s.dueTimer.orElse fun _ => s.dueBoundary.orElse fun _ => s.commit.state.due.orElse fun _ =>
  s.dueFlush.orElse fun _ => s.dueService.orElse fun _ => s.dueWindow

/-- The block with no command waiting: nothing while RESET_N is low, the event it owes, or a microsecond. -/
def idleStep (s : State) : Host.Outcome State Fault Refusal :=
  if s.inReset then .next s
  else match s.due with
    | some c => exec c s
    | none => .next s.tick

end Sys2Proof.Machine
end

