-- ==== Sys2Proof/Safety.lean ====
section
/-! DEFINITION. The invariants of the element: what the spec says holds at every moment, as predicates on State. -/

namespace Sys2Proof.Machine

/-! ## Buffer and queues (R90 to R93) -/

/-- R92: every queued descriptor, as the number of the slot it names. -/
def State.descriptors (s : State) : List Nat :=
  allLinks.flatMap fun l => allClasses.flatMap fun c => (s.port l).queues.lists[c]

/-- R90 to R92: slots and descriptors are conserved; an occupied slot's reference count is at least 1 and is the number of
queued descriptors that name it; no queued descriptor names a free slot. -/
def State.BufferConserved (s : State) : Prop :=
  s.buffer.free + s.buffer.slots.length = 4096 ∧
  s.buffer.freeDesc + s.descriptors.length = 8192 ∧
  (s.buffer.slots.map (·.id)).Pairwise (· < ·) ∧
  (∀ x ∈ s.buffer.slots, x.id < 4096 ∧ 1 ≤ x.refs ∧ x.refs = s.descriptors.count x.id) ∧
  ∀ id ∈ s.descriptors, ∃ x ∈ s.buffer.slots, x.id = id

/-- R93: no output queue holds more than 1024 descriptors. -/
def State.QueuesBounded (s : State) : Prop := ∀ l c, s.queueLength l c ≤ 1024

/-! ## Credits (R126) -/

/-- R126: the available credit never exceeds CREDIT_MAX of the link. -/
def State.CreditBounded (s : State) : Prop :=
  ∀ l c, ((s.port l).credit.available c).toNat ≤ (s.port l).map.creditMax.toNat

/-! ## Service (R109, R138, R140, R164, R195) -/

/-- The boot loader is in one of its two passes. -/
def BootLoader.working (b : BootLoader) : Prop := b.state = .checking ∨ b.state = .applying

/-- R138, R109, R140, R29: one link's control queue, flush and qualified note agree with its state. -/
def Port.ServiceSound (p : Port) : Prop :=
  p.sched.control.length ≤ 4 ∧
  (p.unit.state.inService = false → p.sched.control = []) ∧
  (p.unit.state.inService = true → p.queues.flushing = false) ∧
  (p.unit.state.inService = false → 0 < p.queues.total → p.queues.flushing = true) ∧
  (p.unit.qualified = true → p.unit.state = .qualify ∧ p.queues.flushing = true)

/-- R164, R191, R195, R196: while the loader works every link is in OFF and no request waits; the loader is on the bus only
while it works; the request queue holds at most 8 entries; and every link is sound. -/
def State.ServiceSound (s : State) : Prop :=
  (s.boot.working → (∀ l, (s.port l).unit.state = .off) ∧ s.agent.requests = []) ∧
  (s.boot.bus ≠ .idle → s.boot.working) ∧
  s.agent.requests.length ≤ 8 ∧
  ∀ l, (s.port l).ServiceSound

/-! ## Configuration (R24, R106, R142, R174) -/

/-- R174: a parameter's value is one that a write leaves as it is, and the pairings hold. -/
def ParamsSound (p : Params) : Prop :=
  (∀ i : Fin 30, (paramKind i.val).judge p[i].toNat = some p[i].toNat) ∧
  (∀ c : ClassId, paramValue p (.xoffLo c) < paramValue p (.xoffHi c)) ∧
  paramValue p .fPanic < paramValue p .fResume

/-- R24: the fields of a Port Map entry are in their ranges. -/
def PortMapEntry.Sound (e : PortMapEntry) : Prop :=
  (e.expectId.toNat < 64 ∨ e.expectId = 255) ∧ (e.expectLink.toNat < 64 ∨ e.expectLink = 255) ∧
  1 ≤ e.holdDown.toNat ∧ e.flapLimit.toNat ≤ 15 ∧ 1 ≤ e.creditMax.toNat ∧ e.creditMax.toNat ≤ 128 ∧ 1 ≤ e.drainLimit.toNat

/-- R106: a queue at or above XOFF_HI is in XOFF, and one at or below XOFF_LO is in XON. -/
def State.XoffConsistent (s : State) : Prop :=
  ∀ l c, (s.param (.xoffHi c) ≤ s.queueLength l c → (s.port l).queues.xoff[c] = true) ∧
    (s.queueLength l c ≤ s.param (.xoffLo c) → (s.port l).queues.xoff[c] = false)

/-- R24, R106, R142, R174: the configuration is sound, and with it the XOFF flags and the grant counters that follow it. -/
def State.ConfigSound (s : State) : Prop :=
  ParamsSound s.agent.params ∧ (∀ l, (s.port l).map.Sound) ∧ s.XoffConsistent ∧
  ∀ l, 1 ≤ (s.port l).sched.grant ∧ (s.port l).sched.grant ≤ 15

/-! ## Routes (R49, R53, R57) -/

/-- R49: the contents of a Destination entry describe a possible entry. -/
def DestPossible (e : DestContents) : Prop :=
  if e.valid then
    1 ≤ e.count.toNat ∧ e.count.toNat ≤ 4 ∧ (∀ m ∈ e.members.toList.take e.count.toNat, m.toNat < 64) ∧
      (e.members.toList.take e.count.toNat).Nodup
  else e = destInvalid

/-- R49: the contents of a Group entry describe a possible entry. -/
def GroupPossible (e : GroupContents) : Prop :=
  if e.valid then
    1 ≤ e.count.toNat ∧ e.count.toNat ≤ 32 ∧ (∀ m ∈ e.members.toList.take e.count.toNat, m.toNat < 120) ∧
      ((e.members.toList.take e.count.toNat).map BitVec.toNat).Pairwise (· < ·)
  else e = groupInvalid

/-- R49: every intact entry of a set describes a possible entry. -/
def RouteSet.Sound (r : RouteSet) : Prop :=
  (∀ d : Dcn, r.dest[d].intact = true → DestPossible r.dest[d].contents) ∧
  ∀ g : GroupId, r.group[g].intact = true → GroupPossible r.group[g].contents

/-- R49, R57: the three sets are sound, and every spray pointer is less than its entry's member count, 0 where the entry is
invalid. -/
def State.RoutesSound (s : State) : Prop :=
  s.routes.stageA.Sound ∧ s.routes.stageB.Sound ∧ s.routes.active.Sound ∧
  ∀ d : Dcn, s.routes.active.dest[d].intact = true →
    if s.routes.active.dest[d].contents.valid then s.routes.pointer[d].val < s.routes.active.dest[d].contents.count.toNat
    else s.routes.pointer[d] = 0

/-! ## Links and epochs (R25, R33, R35, R36, R43, R46, R150, R156, R158) -/

/-- R25, R33, R35, R36, R43, R46: a link's timers and counts run only in the states that run them. -/
def LinkUnit.Sound (u : LinkUnit) : Prop :=
  (u.blankTimer.isSome = true ↔ u.state = .blank) ∧
  (u.lossTimer.isSome = true → u.state.inService = true) ∧
  (u.holdDown.isSome = true → u.state = .fault) ∧
  (u.upRising = true → u.state = .up) ∧
  (u.flapDue = true → u.state = .up) ∧
  (u.checker ≠ .unseeded → u.state = .test) ∧
  (u.state.inService = true → u.markerRun < 4) ∧
  u.flapCount ≤ 255 ∧ u.upCount ≤ 65535

/-- Every link unit is sound. -/
def State.LinksSound (s : State) : Prop := ∀ l, (s.port l).unit.Sound

/-- R150, R156, R149, R158: the sync state, the miss run, the source and the pin monitor agree, and the tolerance in force is at
most a quarter of the period. -/
def State.EpochSound (s : State) : Prop :=
  (s.epoch.sync = .free ↔ s.param .epochSource = 0) ∧
  (match s.epoch.sync with
    | .free | .acquiring | .locked => s.epoch.missRun = 0
    | .holdover => 1 ≤ s.epoch.missRun ∧ s.epoch.missRun ≤ 3
    | .lost => s.epoch.missRun = 4) ∧
  8 ≤ s.epoch.period ∧ 4 * s.epoch.tol ≤ s.epoch.period ∧
  (s.epoch.monitor ≠ .low → s.param .epochSource = 1 ∧ s.epoch.pinHigh = true)

end Sys2Proof.Machine
end

