-- ==== Sys2Proof/Certificates/Slice0/Obligations.lean ====
section
/-! DEFINITION. The statements for the provers. Each docstring names the rules of spec/ it rests on; where a clause rests on a
choice of the model it names the log entry. -/

open Sys2Proof Sys2Proof.Machine

/-! ## Commands and steps -/

/-- A step takes the command at the front of the queue and runs it with the queue's rest (the block form of the model, log
entry 1). -/
def Obligations.StepRunsFrontCommand : Prop :=
  ∀ (c : Instr) (rest : List Instr) (s : State),
    step { s with pending := c :: rest } = exec c { s with pending := rest }

/-- With no command waiting the block takes the first event it owes, and when it owes none one microsecond passes: every
running timer comes nearer to its expiry (the model's choice, log entry 2). -/
def Obligations.StepOnEmptyQueue : Prop :=
  ∀ s : State, s.pending = [] →
    (s.inReset = true → step s = .next s) ∧
    (s.inReset = false → ∀ c, s.due = some c → step s = exec c s) ∧
    (s.inReset = false → s.due = none →
      ∃ t, step s = .next t ∧
        t.epoch = { s.epoch with
          window := s.epoch.window + 1
          monitor := (match s.epoch.monitor with | .high n => .high (n - 1) | .low => .low | .stuck => .stuck)
          out := s.epoch.out.map (· - 1) } ∧
        t.flow = { s.flow with gapTimer := s.flow.gapTimer.map (· - 1) } ∧
        (∀ l, t.port l =
          { s.port l with unit :=
              { (s.port l).unit with
                blankTimer := (s.port l).unit.blankTimer.map (· - 1)
                lossTimer := (s.port l).unit.lossTimer.map (· - 1) } }) ∧
        t.routes = s.routes ∧ t.commit = s.commit ∧ t.buffer = s.buffer ∧ t.agent = s.agent ∧ t.notice = s.notice ∧
        t.elementCounters = s.elementCounters ∧ t.boot = s.boot ∧ t.pending = [])

/-- Every command answers a next state whatever the state (one that its state does not enable changes nothing, log entry 3), and
none touches the queue of commands (the block form of the model, log entry 1). The identity and the sample of BOOT_SEL (operands
of ELEMENT_RESET, log entry 7) and the hold of RESET_N change at ELEMENT_RESET alone, but that RESET_N_LOW begins the hold (R164,
R191). -/
def Obligations.EveryCommandAnswersNext : Prop :=
  ∀ (c : Instr) (s : State), ∃ t, exec c s = .next t ∧ t.pending = s.pending ∧
    ((∀ bootSel id, c ≠ .elementReset bootSel id) →
      t.agent.identity = s.agent.identity ∧ t.boot.bootSel = s.boot.bootSel ∧
      (c ≠ .resetNLow → t.inReset = s.inReset))

/-! ## Resets -/

/-- R191: RESET_N going low lowers EPOCH_OUT and ALARM_N and abandons the boot pass, and leaves the cells that have been handed to
transmitters where they are (R135: a reset does not recall them); while it is low a readiness hands nothing, so that the
transmitter is then silent (log entry 22), the edges of EPOCH_IN move the pin's level, a falling edge also leaving the monitor LOW
(log entry 11), and besides only the reset event does anything. -/
def Obligations.ResetNLowHoldsTheElement : Prop :=
  ∀ s : State, ∃ t, exec .resetNLow s = .next t ∧
    t.inReset = true ∧
    (∀ l, t.port l = s.port l) ∧
    (∀ l, exec (.transmitReady l) t = .next (t.modPort l fun p => { p with transmitter := none })) ∧
    t.epochOut = false ∧ t.alarmN = false ∧
    t.boot = { s.boot with image := [], offset := 0, recordIndex := 0, bus := .idle } ∧
    t.epoch = { s.epoch with out := none } ∧
    t.routes = s.routes ∧ t.commit = s.commit ∧ t.buffer = s.buffer ∧ t.flow = s.flow ∧ t.agent = s.agent ∧
    t.notice = s.notice ∧ t.elementCounters = s.elementCounters ∧
    (∀ elapsed, exec (.epochInRisingEdge elapsed) t = .next { t with epoch := { t.epoch with pinHigh := true } }) ∧
    exec .epochInFallingEdge t = .next { t with epoch := { t.epoch with pinHigh := false, monitor := .low } } ∧
    ∀ c : Instr, (∀ bootSel id, c ≠ .elementReset bootSel id) → (∀ e, c ≠ .epochInRisingEdge e) →
      c ≠ .epochInFallingEdge → (∀ l, c ≠ .transmitReady l) → exec c t = .next t

/-- R47, R88, R114, R147, R162, R180, R191: the values that ELEMENT_RESET gives the link units, the commit unit, the buffer and
queues, the schedulers, the epoch unit, the agent and the boot loader, whose runs and counts are 0, first bad record absent, cause
NONE and marks clear. The links are in OFF and the loader in CHECKING when BOOT_SEL is high; when it is low the default
configuration has taken the links to BLANK and the loader to DONE_DEFAULT within the same event (R192). A cell that
has been handed to a transmitter stays in it (R135). (The model's: that the first transfer of the loader has begun in the same
event, log entry 10; that EPOCH_IN keeps its level, log entry 7; and the pattern generator, LENGTH, RECORD_COUNT and the place in
the image, the notes of the up count and the boundaries not yet handled, log entry 8.) The blocks left over are those of `BothResetsValues`. -/
def Obligations.ElementResetValues : Prop :=
  ∀ (bootSel : Bool) (id : BitVec 6) (s : State), ∃ t, exec (.elementReset bootSel id) s = .next t ∧
    t.inReset = false ∧
    (∀ l,
      (t.port l).unit.state = (if bootSel then LinkState.off else LinkState.blank) ∧
      (t.port l).unit.blankTimer = (if bootSel then none else some 256) ∧
      (t.port l).unit.signal = false ∧ (t.port l).unit.aligned = false ∧
      (t.port l).unit.lossTimer = none ∧ (t.port l).unit.holdDown = none ∧
      (t.port l).unit.qualRun = 0 ∧ (t.port l).unit.mismatchRun = 0 ∧ (t.port l).unit.qualified = false ∧
      (t.port l).unit.errorCount = 0 ∧ (t.port l).unit.markerRun = 0 ∧ (t.port l).unit.drainCount = 0 ∧
      (t.port l).unit.upCount = 0 ∧ (t.port l).unit.flapCount = 0 ∧ (t.port l).unit.lastFault = none ∧
      (t.port l).unit.checker = .unseeded ∧ (t.port l).testErrors = 0 ∧
      (t.port l).map =
        { expectId := 255, expectLink := 255, mgmtAllowed := true, recovery := .auto, squelch := .idle, holdDown := 8,
          flapLimit := 4, errorLimit := 16, creditMax := 64, drainLimit := 32 } ∧
      (∀ c : ClassId, (t.port l).queues.lists[c] = [] ∧ (t.port l).queues.xoff[c] = false) ∧
      (t.port l).queues.flushing = false ∧
      (t.port l).sched.position = .one ∧ (t.port l).sched.grant = 8 ∧ (t.port l).sched.control = [] ∧
      (t.port l).enableMark = false ∧ (t.port l).transmitter = (s.port l).transmitter ∧
      (t.port l).unit.upRising = false ∧ (t.port l).unit.flapDue = false ∧
      (t.port l).unit.generator = BitVec.allOnes 31 ∧ (t.port l).boundaries = 0) ∧
    t.epoch.pinHigh = s.epoch.pinHigh ∧ t.commit.boundaries = [] ∧ t.flow.boundaries = 0 ∧ t.notice.boundaries = [] ∧
    t.boot.length = 0 ∧ t.boot.recordCount = 0 ∧ t.boot.offset = 0 ∧ t.boot.recordIndex = 0 ∧
    t.boot.bootSel = bootSel ∧ t.boot.state = (if bootSel then .checking else .doneDefault) ∧
    t.boot.bus = (if bootSel then .transferring else .idle) ∧ t.boot.image = [] ∧ t.boot.arbRun = 0 ∧ t.boot.taken = 0 ∧
    t.boot.refused = 0 ∧ t.boot.firstBad = none ∧ t.boot.cause = .none ∧ t.boot.failInApply = false ∧
    t.commit.state = .idle ∧ t.commit.record = none ∧ t.commit.scrub = 0 ∧
    (∀ d : Dcn, t.routes.destBad[d] = false) ∧ (∀ g : GroupId, t.routes.groupBad[g] = false) ∧
    t.buffer.slots = [] ∧ t.buffer.free = 4096 ∧ t.buffer.freeDesc = 8192 ∧ t.buffer.congested = false ∧
    t.epoch.count = 0 ∧ t.epoch.sync = .free ∧ t.epoch.window = 0 ∧ t.epoch.period = 128 ∧ t.epoch.tol = 4 ∧
    t.epoch.missRun = 0 ∧ t.epoch.pending = none ∧ t.epoch.monitor = .low ∧ t.epoch.out = none ∧
    t.agent.phase = .config ∧ t.agent.requests = [] ∧ t.agent.lastDiscard = none ∧ t.agent.identity = id ∧
    t.agent.params =
      #v[5, 4, 3, 2, 192, 192, 192, 192, 96, 96, 96, 96, 8, 4, 2, 256, 512, 0, 15, 4, 0, 16, 1, 3, 8, 1024, 3, 255, 16, 255]

/-- R48, R89, R115, R148, R163: what SOFT_RESET, at the head of the request queue, gives every link, the commit unit, the buffer
and queues, the schedulers and the epoch unit; R182, R190: the flags and the counters; and R179: that it empties the request queue
and keeps the routes, the phase, the parameters and the loader. (That a block keeps a boundary it has not yet handled is the
model's, log entry 20, and so is that the checker of a link in TEST is left unseeded, log entry 16.) -/
def Obligations.SoftResetValues : Prop :=
  ∀ (s : State) (r : Request) (rest : List Request), s.inReset = false → s.agent.requests = r :: rest →
    r.fields.command = 0x41 →
    ∃ t, exec .softReset s = .next t ∧
      (∀ (l : LinkId) (u : LinkUnit),
        u = { (s.port l).unit with
          lossTimer := none, holdDown := none, qualified := false, upRising := false, flapDue := false, flapCount := 0,
          lastFault := none } →
        ((s.port l).unit.state = .off → (t.port l).unit = u) ∧
        ((s.port l).unit.state = .test → (t.port l).unit = { u with state := .off, checker := .unseeded }) ∧
        ((s.port l).unit.state ≠ .off → (s.port l).unit.state ≠ .test →
          (t.port l).unit = { u with
            state := .blank, blankTimer := some ((s.param .blankTime + 1) * 64), qualRun := 0, mismatchRun := 0 }) ∧
        (t.port l).map = (s.port l).map ∧ (t.port l).transmitter = (s.port l).transmitter ∧
        (t.port l).boundaries = (s.port l).boundaries ∧ (t.port l).enableMark = (s.port l).enableMark ∧
        (t.port l).flowDue = false ∧
        (t.port l).flags = 0 ∧ (∀ i : Fin 15, (t.port l).counters[i] = 0) ∧ (t.port l).testErrors = 0 ∧
        (∀ c : ClassId, (t.port l).queues.lists[c] = [] ∧ (t.port l).queues.xoff[c] = false ∧
          (t.port l).credit.granted[c] = 0 ∧ (t.port l).credit.sent[c] = 0) ∧
        (t.port l).queues.flushing = false ∧
        (t.port l).sched = { position := .one, grant := s.param (.weight .one), control := [] }) ∧
      t.commit.state = .idle ∧ t.commit.scrub = s.commit.scrub ∧
      t.commit.record =
        (match s.commit.state with
          | .idle => s.commit.record
          | .checking q _ _ | .armed q => some { request := q, outcome := .cancelled, epoch := s.epoch.count }) ∧
      t.buffer = { slots := [], free := 4096, freeDesc := 8192, congested := false } ∧
      t.epoch = s.epoch ∧ t.routes = s.routes ∧ t.boot = s.boot ∧
      t.flow = { s.flow with gapTimer := none, mapPending := false } ∧ t.commit.boundaries = s.commit.boundaries ∧
      (∀ f : ElementFlag, t.elementFlag f = decide (f = .resetSeen)) ∧ (∀ i : Fin 6, t.elementCounters[i] = 0) ∧
      t.notice = { s.notice with flags := t.notice.flags, resetKind := .soft, pending := true } ∧
      t.agent = { s.agent with requests := [], lastDiscard := none }

/-- R69, R133, R134, R190: the route store, the flow unit, the credits, the flags, the masks and the counters after each of
the two resets. -/
def Obligations.BothResetsValues : Prop :=
  (∀ (bootSel : Bool) (id : BitVec 6) (s : State), ∃ t, exec (.elementReset bootSel id) s = .next t ∧
    (∀ d : Dcn, t.routes.stageA.dest[d] = { contents := destInvalid, intact := true } ∧
      t.routes.stageB.dest[d] = { contents := destInvalid, intact := true } ∧
      t.routes.active.dest[d] = { contents := destInvalid, intact := true } ∧
      t.routes.destBad[d] = false ∧ t.routes.pointer[d] = 0) ∧
    (∀ g : GroupId, t.routes.stageA.group[g] = { contents := groupInvalid, intact := true } ∧
      t.routes.stageB.group[g] = { contents := groupInvalid, intact := true } ∧
      t.routes.active.group[g] = { contents := groupInvalid, intact := true } ∧ t.routes.groupBad[g] = false) ∧
    t.flow.gapTimer = none ∧ t.flow.mapPending = false ∧ t.param .flowGap = 8 ∧
    (∀ l, (t.port l).flowDue = false ∧ (t.port l).map.creditMax = 64 ∧ (t.port l).flags = 0 ∧ (t.port l).testErrors = 0 ∧
      (∀ c : ClassId, (t.port l).credit.granted[c] = 0 ∧ (t.port l).credit.sent[c] = 0) ∧
      ∀ i : Fin 15, (t.port l).counters[i] = 0) ∧
    (∀ f : ElementFlag, t.elementFlag f = decide (f = .resetSeen)) ∧ t.notice.resetKind = .element ∧
    t.notice.elementMasks = 0 ∧ t.notice.linkMasks = 0 ∧ t.notice.pending = true ∧
    (∀ i : Fin 6, t.elementCounters[i] = 0) ∧ t.param .noticeLink = 255 ∧ t.param .alarmSource = 255) ∧
  (∀ (s : State) (r : Request) (rest : List Request), s.inReset = false → s.agent.requests = r :: rest →
    r.fields.command = 0x41 →
    ∃ t, exec .softReset s = .next t ∧
      t.routes = s.routes ∧
      t.flow.gapTimer = none ∧ t.flow.mapPending = false ∧ t.agent.params = s.agent.params ∧
      (∀ l, (t.port l).flowDue = false ∧ (t.port l).map = (s.port l).map ∧ (t.port l).flags = 0 ∧ (t.port l).testErrors = 0 ∧
        (t.port l).sched.control = [] ∧
        (∀ c : ClassId, (t.port l).credit.granted[c] = 0 ∧ (t.port l).credit.sent[c] = 0) ∧
        ∀ i : Fin 15, (t.port l).counters[i] = 0) ∧
      (∀ f : ElementFlag, t.elementFlag f = decide (f = .resetSeen)) ∧ t.notice.resetKind = .soft ∧
      t.notice.elementMasks = s.notice.elementMasks ∧ t.notice.linkMasks = s.notice.linkMasks ∧ t.notice.pending = true ∧
      ∀ i : Fin 6, t.elementCounters[i] = 0)

/-! ## Fabric links -/

/-- R22, R26, R27, R30, R33: what it is to change one link or its link unit: every other link and every other block is as it was.
SIGNAL and ALIGNED. A loss always clears its condition; it takes QUALIFY back to SEEK, and in UP and
DRAINING starts the loss timer unless that runs. An event that brings the link into lock takes SEEK to QUALIFY and cancels the
loss timer of UP and DRAINING; every other one changes its condition alone. At blank timer expiry a link in BLANK enters QUALIFY
when it is in lock and SEEK otherwise; at loss timer expiry a link in UP or DRAINING enters FAULT, with cause LOS when SIGNAL is
absent and ALIGN_LOST when it is present. (An expiry in the queue of commands is taken while its timer runs, log entry 3.) -/
def Obligations.LockEventsAndLinkTimers : Prop :=
  (∀ (s : State) (l m : LinkId) (f : Port → Port) (g : LinkUnit → LinkUnit),
     s.port l = s.ports[l] ∧
     (s.modPort l f).port m = (if m = l then f (s.port l) else s.port m) ∧
     (s.modUnit l g).port m = (if m = l then { s.port l with unit := g (s.port l).unit } else s.port m) ∧
     s.modPort l f = { s with ports := (s.modPort l f).ports } ∧ s.modUnit l g = { s with ports := (s.modUnit l g).ports }) ∧
  (∀ (s : State) (l : LinkId), s.inReset = false →
     ∀ u, u = (s.port l).unit →
     (u.state = .qualify →
       exec (.signalLost l) s =
         .next (s.modUnit l fun _ =>
           { u with signal := false, aligned := false, state := .seek, qualRun := 0, qualified := false }) ∧
       exec (.alignmentLost l) s =
         .next (s.modUnit l fun _ => { u with aligned := false, state := .seek, qualRun := 0, qualified := false })) ∧
     (u.state = .up ∨ u.state = .draining → u.lossTimer = none →
       exec (.signalLost l) s =
         .next (s.modUnit l fun _ =>
           { u with signal := false, aligned := false,
                    lossTimer := some (if s.param .losIntegration = 0 then 2 else 10) }) ∧
       exec (.alignmentLost l) s =
         .next (s.modUnit l fun _ =>
           { u with aligned := false, lossTimer := some (if s.param .losIntegration = 0 then 2 else 10) })) ∧
     (u.state ≠ .qualify → (u.state = .up ∨ u.state = .draining → u.lossTimer ≠ none) →
       exec (.signalLost l) s = .next (s.modUnit l fun _ => { u with signal := false, aligned := false }) ∧
       exec (.alignmentLost l) s = .next (s.modUnit l fun _ => { u with aligned := false }))) ∧
  (∀ (s : State) (l : LinkId), s.inReset = false →
     ∀ u, u = (s.port l).unit →
     (u.signal = false → u.aligned = true →
       (u.state = .seek →
         exec (.signalRestored l) s = .next (s.modUnit l fun _ => { u with signal := true, state := .qualify, qualRun := 0 })) ∧
       (u.state = .up ∨ u.state = .draining →
         exec (.signalRestored l) s = .next (s.modUnit l fun _ => { u with signal := true, lossTimer := none })) ∧
       (u.state ≠ .seek → u.state ≠ .up → u.state ≠ .draining →
         exec (.signalRestored l) s = .next (s.modUnit l fun _ => { u with signal := true }))) ∧
     (u.signal = true → u.aligned = false →
       (u.state = .seek →
         exec (.alignmentGained l) s =
           .next (s.modUnit l fun _ => { u with aligned := true, state := .qualify, qualRun := 0 })) ∧
       (u.state = .up ∨ u.state = .draining →
         exec (.alignmentGained l) s = .next (s.modUnit l fun _ => { u with aligned := true, lossTimer := none })) ∧
       (u.state ≠ .seek → u.state ≠ .up → u.state ≠ .draining →
         exec (.alignmentGained l) s = .next (s.modUnit l fun _ => { u with aligned := true }))) ∧
     (u.signal = true ∨ u.aligned = false →
       exec (.signalRestored l) s = .next (s.modUnit l fun _ => { u with signal := true })) ∧
     (u.signal = false ∨ u.aligned = true →
       exec (.alignmentGained l) s = .next (s.modUnit l fun _ => { u with aligned := true }))) ∧
  (∀ (s : State) (l : LinkId), s.inReset = false →
     ∀ u, u = (s.port l).unit →
     (u.state = .blank → u.blankTimer ≠ none →
       (u.signal = true → u.aligned = true →
         exec (.blankTimerExpiry l) s =
           .next (s.modUnit l fun _ => { u with state := .qualify, blankTimer := none, qualRun := 0 })) ∧
       (u.signal = false ∨ u.aligned = false →
         exec (.blankTimerExpiry l) s = .next (s.modUnit l fun _ => { u with state := .seek, blankTimer := none }))) ∧
     (u.state = .up ∨ u.state = .draining → u.lossTimer ≠ none →
       (u.signal = false → exec (.lossTimerExpiry l) s = .next (s.enterFault l .los)) ∧
       (u.signal = true → exec (.lossTimerExpiry l) s = .next (s.enterFault l .alignLost))))

/-- R32, R40, R109, R111, R119, R120, R124, R139: entry to FAULT: the link unit, the record, the FAULT flag and the hold-down; from
UP or DRAINING the control queue is emptied and a flush is requested (it ends at once, the flags XON, when nothing is queued, log
entry 14); from UP the flow unit takes a change notice, and with it the other links their FLOW-due; nothing else of this link, and
nothing else of another link, changes. Entry to UP: the counts that start, LINK_UP, FLOW-due and the change notice, and nothing
else. -/
def Obligations.EntriesToFaultAndUp : Prop :=
  (∀ x : LinkState, x.inService = true ↔ x = .up ∨ x = .draining) ∧
  (∀ (s : State) (l : LinkId) (cause : FaultCause) (t : State) (u : LinkUnit),
     t = s.enterFault l cause → u = (s.port l).unit →
     t.port l =
       { s.port l with
         unit := { u with
           state := .fault, lossTimer := none, upRising := false, flapDue := false, qualified := false,
           lastFault := some { cause := cause, epoch := s.epoch.count },
           holdDown := if (s.port l).map.recovery = .auto then some 0 else none }
         sched := if u.state.inService then { (s.port l).sched with control := [] } else (s.port l).sched
         queues :=
           if u.state.inService = false ∨ (s.port l).queues.flushing = true then (s.port l).queues
           else if (s.port l).queues.total = 0 then { (s.port l).queues with xoff := Vector.replicate 4 false }
           else { (s.port l).queues with flushing := true }
         flags := (t.port l).flags } ∧
     t.linkFlag l .fault = true ∧ (∀ g, g ≠ .fault → t.linkFlag l g = s.linkFlag l g) ∧
     t.notice = { s.notice with
       pending := s.notice.pending || (u.state.inService && (s.port l).sched.control.any fun x => x.kind == .notice) ||
         (!s.linkFlag l .fault && !s.notice.linkMasks.getLsbD (LinkFlag.bit .fault)) } ∧
     (u.state.inService = true → t.elementCounters = (s.emptyControl l).elementCounters) ∧
     (u.state.inService = false → t.elementCounters = s.elementCounters) ∧
     (u.state = .up → t.flow = s.changeNotice.flow ∧
       ∀ m, m ≠ l → t.port m = { s.port m with flowDue := (s.changeNotice.port m).flowDue }) ∧
     (u.state ≠ .up → t.flow = s.flow ∧ ∀ m, m ≠ l → t.port m = s.port m) ∧
     t.routes = s.routes ∧ t.commit = s.commit ∧ t.buffer = s.buffer ∧ t.epoch = s.epoch ∧ t.agent = s.agent ∧ t.boot = s.boot) ∧
  (∀ (s : State) (l : LinkId) (t : State), t = s.enterUp l →
     t.port l =
       { s.port l with
         unit := { (s.port l).unit with
           state := .up, errorCount := 0, markerRun := 0, upCount := 0, upRising := true, flapDue := false, qualified := false,
           lossTimer := none }
         flowDue := true
         flags := (t.port l).flags } ∧
     t.linkFlag l .linkUp = true ∧ (∀ g, g ≠ .linkUp → t.linkFlag l g = s.linkFlag l g) ∧
     t.notice = { s.notice with
       pending := s.notice.pending || (!s.linkFlag l .linkUp && !s.notice.linkMasks.getLsbD (LinkFlag.bit .linkUp)) } ∧
     (s.flow.gapTimer = none → t.flow = { s.flow with gapTimer := some (s.param .flowGap) } ∧
       ∀ m, m ≠ l → t.port m =
         { s.port m with flowDue := (s.port m).flowDue || (s.port m).unit.state.inService }) ∧
     (s.flow.gapTimer ≠ none → t.flow = { s.flow with mapPending := true } ∧ ∀ m, m ≠ l → t.port m = s.port m) ∧
     t.buffer = s.buffer ∧ t.routes = s.routes ∧ t.epoch = s.epoch ∧ t.commit = s.commit ∧ t.agent = s.agent ∧
     t.boot = s.boot ∧ t.elementCounters = s.elementCounters)

/-- R28, R29, R31, R34, R35: a report in QUALIFY moves the runs by the table of R28; a mismatch run at QUALIFY_COUNT gives MISWIRE; a
qualification run at QUALIFY_COUNT brings the link to UP, or sets the qualified note while a flush is in progress; while the
note is set the qualification run is not counted. In UP and DRAINING MARKER raises the remote-marker run, which gives REMOTE at
4, and every other report sets it to 0; CHECK_FAILED raises the error window count, which gives ERROR_RATE above an ERROR_LIMIT
that is not 0; IDLE moves the mismatch run, which gives MISWIRE at QUALIFY_COUNT (after other reports it is not compared, log
entry 13). -/
def Obligations.ReportsToTheLinkUnit : Prop :=
  (∀ (s : State) (l : LinkId) (r : Report) (u v : LinkUnit), u = (s.port l).unit → u.state = .qualify →
     v = { u with
           qualRun := if u.qualified then u.qualRun else
             (match r with
               | .idle true => u.qualRun + 1
               | .other => u.qualRun
               | .idle false | .marker | .checkFailed => 0)
           mismatchRun :=
             (match r with
               | .idle true => 0
               | .idle false => u.mismatchRun + 1
               | .marker | .checkFailed | .other => u.mismatchRun) } →
     (s.param .qualifyCount ≤ v.mismatchRun →
       s.report l r = (s.modUnit l fun _ => v).enterFault l .miswire) ∧
     (v.mismatchRun < s.param .qualifyCount → v.qualified = false → s.param .qualifyCount ≤ v.qualRun →
       (s.port l).queues.flushing = false → s.report l r = (s.modUnit l fun _ => v).enterUp l) ∧
     (v.mismatchRun < s.param .qualifyCount → v.qualified = false → s.param .qualifyCount ≤ v.qualRun →
       (s.port l).queues.flushing = true → s.report l r = s.modUnit l fun _ => { v with qualified := true }) ∧
     (v.mismatchRun < s.param .qualifyCount → (v.qualified = true ∨ v.qualRun < s.param .qualifyCount) →
       s.report l r = s.modUnit l fun _ => v)) ∧
  (∀ (s : State) (l : LinkId) (u : LinkUnit), u = (s.port l).unit → u.state = .up ∨ u.state = .draining →
     (∀ v, v = { u with markerRun := u.markerRun + 1 } →
       (4 ≤ v.markerRun → s.report l .marker = (s.modUnit l fun _ => v).enterFault l .remote) ∧
       (v.markerRun < 4 → s.report l .marker = s.modUnit l fun _ => v)) ∧
     (∀ v, v = { u with markerRun := 0, errorCount := u.errorCount + 1 } →
       ((s.port l).map.errorLimit ≠ 0 → (s.port l).map.errorLimit.toNat < v.errorCount →
         s.report l .checkFailed = (s.modUnit l fun _ => v).enterFault l .errorRate) ∧
       ((s.port l).map.errorLimit = 0 ∨ v.errorCount ≤ (s.port l).map.errorLimit.toNat →
         s.report l .checkFailed = s.modUnit l fun _ => v)) ∧
     (∀ (b : Bool) (v : LinkUnit), v = { u with markerRun := 0, mismatchRun := if b then 0 else u.mismatchRun + 1 } →
       (s.param .qualifyCount ≤ v.mismatchRun → s.report l (.idle b) = (s.modUnit l fun _ => v).enterFault l .miswire) ∧
       (v.mismatchRun < s.param .qualifyCount → s.report l (.idle b) = s.modUnit l fun _ => v)) ∧
     s.report l .other = s.modUnit l fun _ => { u with markerRun := 0 })

/-- R34, R36, R39, R43: LINK_BOUNDARY_WORK by state, and what follows it at once: FLAP_CLEAR when the up count has reached
FLAP_CLEAR, DRAIN_LIMIT when the drain count has reached the limit, HOLD_DOWN_END when the hold-down count has. (That the boundary
work and what follows are separate commands is the table's own division; a boundary waits in its block, log entry 12.) -/
def Obligations.BoundaryWorkOfLinks : Prop :=
  ∀ (s : State) (l : LinkId) (u : LinkUnit), s.inReset = false → u = (s.port l).unit →
    (∀ n v, (s.port l).boundaries = n + 1 →
      (u.state = .up → u.upRising = true → v = { u with
          errorCount := 0, upCount := min 65535 (u.upCount + 1),
          flapDue := decide (s.param .flapClear ≤ min 65535 (u.upCount + 1)) } →
        exec (.linkBoundaryWork l) s = .next (s.modPort l fun p => { p with boundaries := n, unit := v })) ∧
      (u.state = .up → u.upRising = false → v = { u with errorCount := 0 } →
        exec (.linkBoundaryWork l) s = .next (s.modPort l fun p => { p with boundaries := n, unit := v })) ∧
      (u.state = .draining → v = { u with errorCount := 0, drainCount := u.drainCount + 1 } →
        exec (.linkBoundaryWork l) s = .next (s.modPort l fun p => { p with boundaries := n, unit := v })) ∧
      (u.state = .fault → v = { u with holdDown := u.holdDown.map (· + 1) } →
        exec (.linkBoundaryWork l) s = .next (s.modPort l fun p => { p with boundaries := n, unit := v })) ∧
      (u.state ≠ .up → u.state ≠ .draining → u.state ≠ .fault → v = u →
        exec (.linkBoundaryWork l) s = .next (s.modPort l fun p => { p with boundaries := n, unit := v }))) ∧
    (u.state = .up → u.flapDue = true →
      exec (.flapClear l) s = .next (s.modUnit l fun _ => { u with flapCount := 0, upRising := false, flapDue := false })) ∧
    (u.state = .draining → (s.port l).map.drainLimit.toNat ≤ u.drainCount →
      exec (.drainLimit l) s =
        .next ((((s.modUnit l fun _ => { u with state := .off, lossTimer := none }).emptyControl l).requestFlush l).latchLink
          l .drainTimeout)) ∧
    (∀ n, u.state = .fault → u.holdDown = some n → (s.port l).map.holdDown.toNat ≤ n →
      ((s.port l).map.flapLimit ≠ 0 → (s.port l).map.flapLimit.toNat < min 255 (u.flapCount + 1) →
        exec (.holdDownEnd l) s =
          .next ((s.modUnit l fun _ => { u with holdDown := none, flapCount := min 255 (u.flapCount + 1) }).latchLink
            l .flapLimit)) ∧
      ((s.port l).map.flapLimit = 0 ∨ min 255 (u.flapCount + 1) ≤ (s.port l).map.flapLimit.toNat →
        exec (.holdDownEnd l) s =
          .next (s.modPort l fun p =>
            { p with
              unit := { u with holdDown := none, flapCount := min 255 (u.flapCount + 1), state := .blank,
                               blankTimer := some ((s.param .blankTime + 1) * 64), qualRun := 0, mismatchRun := 0,
                               qualified := false }
              credit := LinkCredit.zero })))

/-- R12, R46: the test pattern: with b the sequence in which each bit is the exclusive-or of the bits 28 and 31 places before it and
whose first 31 bits, the oldest first, are the generator's state, the payload holds the 512 bits that follow them, the first in bit
7 of byte 0, and the generator is left with the last 31 of those; a seed is the last 31 bits of a payload, the oldest first. The
test checker of a link in TEST: a TEST cell seeds an unseeded checker; a tracking checker compares it with the next 512 bits; a
damaged cell stands for one bad TEST cell; at a streak of 8 the checker is unseeded. -/
def Obligations.TestChecker : Prop :=
  (∀ (g : BitVec 31) (b : Nat → Bool), (∀ i, i < 31 → b i = g.getLsbD (30 - i)) → (∀ n, b (n + 31) = (b (n + 3) != b n)) →
    (∀ i, i < 512 → (byteAt (patternPayload g).toList (i / 8)).getLsbD (7 - i % 8) = b (31 + i)) ∧
    ∀ i, i < 31 → (patternAdvance 512 g).getLsbD (30 - i) = b (512 + i)) ∧
  (∀ (cell : Cell) (i : Nat), i < 31 →
    (patternSeed cell).getLsbD (30 - i) = (cell.byte ((481 + i) / 8)).getLsbD (7 - (481 + i) % 8)) ∧
  ∀ (s : State) (l : LinkId) (cell : Cell) (p : Port), s.inReset = false → p = s.port l → p.unit.state = .test →
    (cell.headerOk = true → cell.header.type = 7 →
      (p.unit.checker = .unseeded →
        exec (.testReceived l cell) s =
          .next (s.modUnit l fun u => { u with checker := .tracking (patternSeed cell) 0 })) ∧
      (∀ g n, p.unit.checker = .tracking g n → cell.payload = patternPayload g →
        exec (.testReceived l cell) s =
          .next (s.modUnit l fun u => { u with checker := .tracking (patternAdvance 512 g) 0 })) ∧
      (∀ g n, p.unit.checker = .tracking g n → cell.payload ≠ patternPayload g →
        exec (.testReceived l cell) s =
          .next (s.modPort l fun p =>
            { p with
              testErrors := if p.testErrors = 65535 then p.testErrors else p.testErrors + 1
              unit := { p.unit with
                checker := if n + 1 = 8 ∨ 8 < n + 1 then .unseeded else .tracking (patternAdvance 512 g) (n + 1) } }))) ∧
    (cell.headerOk = false →
      (p.unit.checker = .unseeded → exec (.damagedCellReceived l cell) s = .next s) ∧
      (∀ g n, p.unit.checker = .tracking g n →
        exec (.damagedCellReceived l cell) s =
          .next (s.modPort l fun p =>
            { p with
              testErrors := if p.testErrors = 65535 then p.testErrors else p.testErrors + 1
              unit := { p.unit with
                checker := if n + 1 = 8 ∨ 8 < n + 1 then .unseeded else .tracking (patternAdvance 512 g) (n + 1) } })))

/-! ## Received cells -/

/-- R3, R5, R6, R193, and the order of bytes (00, Field layouts): the three checks, each as the register after every bit of the bytes,
each byte taken most significant bit first: HCHK by x^8 + x^2 + x + 1 from zero, the payload check by x^16 + x^12 + x^5 + 1 from all
ones, the image check by 04C11DB7 from all ones with the final value inverted; the seven header bytes before HCHK; what passing
each cell check is; 16-bit and 32-bit fields, most significant byte first; and a cell read back from its 72 bytes. -/
def Obligations.HeaderBytesAndChecks : Prop :=
  (∀ b : List Byte,
     (∀ r : Nat → BitVec 8, r 0 = 0 →
       (∀ i, i < 8 * b.length → r (i + 1) =
         (r i <<< 1) ^^^ (if (r i).msb != (byteAt b (i / 8)).getLsbD (7 - i % 8) then 0x07#8 else 0)) →
       crc8 b = r (8 * b.length)) ∧
     (∀ r : Nat → BitVec 16, r 0 = 0xFFFF →
       (∀ i, i < 8 * b.length → r (i + 1) =
         (r i <<< 1) ^^^ (if (r i).msb != (byteAt b (i / 8)).getLsbD (7 - i % 8) then 0x1021#16 else 0)) →
       crc16 b = r (8 * b.length)) ∧
     ∀ r : Nat → BitVec 32, r 0 = 0xFFFFFFFF →
       (∀ i, i < 8 * b.length → r (i + 1) =
         (r i <<< 1) ^^^ (if (r i).msb != (byteAt b (i / 8)).getLsbD (7 - i % 8) then 0x04C11DB7#32 else 0)) →
       crc32 b = ~~~ r (8 * b.length)) ∧
  crc8 [0x10, 0x05, 0, 0, 0, 0, 0] = 0x5E ∧
  (∀ h : Header, h.bytes7.length = 7 ∧
     (byteAt h.bytes7 0).toNat = 16 * h.type.toNat + 4 * h.cls.toNat + h.dest.toNat / 256 ∧
     (byteAt h.bytes7 1).toNat = h.dest.toNat % 256 ∧
     (∀ i, i < 5 → (byteAt h.bytes7 (2 + i)).toNat = h.context.toNat / 256 ^ (4 - i) % 256) ∧
     Header.ofBytes (h.bytes7 ++ [h.hchk]) = h) ∧
  (∀ c : Cell,
     (c.headerOk = true ↔ crc8 c.header.bytes7 = c.header.hchk) ∧
     (c.payloadOk = true ↔ crc16 (c.payload.toList.take 62) = half (c.byte 62) (c.byte 63)) ∧
     (∀ i : Fin 64, c.byte i.val = c.payload[i]) ∧
     c.bytes = c.header.bytes7 ++ [c.header.hchk] ++ c.payload.toList ∧ c.bytes.length = 72 ∧ Cell.ofBytes c.bytes = c) ∧
  (∀ (hi lo : Byte), (half hi lo).toNat = 256 * hi.toNat + lo.toNat) ∧
  (∀ w : Half, 256 * (hiByte w).toNat + (loByte w).toNat = w.toNat ∧ bytes16 w = [hiByte w, loByte w]) ∧
  (∀ w : BitVec 32, (bytes32 w).length = 4 ∧ ∀ i, i < 4 → (byteAt (bytes32 w) i).toNat = w.toNat / 256 ^ (3 - i) % 256) ∧
  ∀ (b : List Byte) (i : Nat), byteAt b i = b.getD i 0 ∧ halfAt b i = half (byteAt b i) (byteAt b (i + 1))

/-- R6, R16 to R19, R28: in QUALIFY, UP and DRAINING a cell whose header check fails counts in HEADER_ERRORS and is reported
CHECK_FAILED, and one of TYPE 8 to 15 counts in BAD_TYPE; in QUALIFY a DATA_U, DATA_M, FLOW, MGMT, SYNC or TEST cell counts in
NOT_UP whatever its payload; a FLOW, MGMT or SYNC cell in UP or DRAINING, or an IDLE cell, whose payload check fails counts in
PAYLOAD_ERRORS and is reported CHECK_FAILED; a good IDLE is reported with whether it matches the Port Map entry, a MARKER as
MARKER, and a TEST cell in UP or DRAINING as OTHER. Every one of them counts in RX_CELLS. In OFF, BLANK, SEEK and FAULT a cell
changes nothing, and in TEST only TEST cells and damaged cells are taken. -/
def Obligations.CellsByTypeInTheClassifier : Prop :=
  (∀ (s : State) (l : LinkId) (cell : Cell) (elapsed : Nat), s.inReset = false →
     ((s.port l).unit.state = .off ∨ (s.port l).unit.state = .blank ∨ (s.port l).unit.state = .seek ∨
       (s.port l).unit.state = .fault ∨ (s.port l).unit.state = .test →
       exec (.dataUReceived l cell) s = .next s ∧ exec (.dataMReceived l cell) s = .next s ∧
       exec (.flowReceived l cell) s = .next s ∧ exec (.mgmtReceived l cell) s = .next s ∧
       exec (.syncReceived l cell elapsed) s = .next s ∧ exec (.idleReceived l cell) s = .next s ∧
       exec (.markerReceived l cell) s = .next s ∧ exec (.unknownTypeReceived l cell) s = .next s) ∧
     ((s.port l).unit.state = .off ∨ (s.port l).unit.state = .blank ∨ (s.port l).unit.state = .seek ∨
       (s.port l).unit.state = .fault →
       exec (.testReceived l cell) s = .next s ∧ exec (.damagedCellReceived l cell) s = .next s)) ∧
  (∀ (s : State) (l : LinkId) (cell : Cell), s.inReset = false →
     (s.port l).unit.state = .qualify ∨ (s.port l).unit.state = .up ∨ (s.port l).unit.state = .draining →
     (crc8 cell.header.bytes7 ≠ cell.header.hchk →
       exec (.damagedCellReceived l cell) s =
         .next (((s.countLink l .rxCells).countLink l .headerErrors).report l .checkFailed)) ∧
     (crc8 cell.header.bytes7 = cell.header.hchk → 8 ≤ cell.header.type.toNat →
       exec (.unknownTypeReceived l cell) s = .next (((s.countLink l .rxCells).countLink l .badType).report l .other))) ∧
  (∀ (s : State) (l : LinkId) (cell : Cell) (elapsed : Nat) (t : State), s.inReset = false →
     (s.port l).unit.state = .qualify → crc8 cell.header.bytes7 = cell.header.hchk →
     t = ((s.countLink l .rxCells).countLink l .notUp).report l .other →
     (cell.header.type = 1 → exec (.dataUReceived l cell) s = .next t) ∧
     (cell.header.type = 2 → exec (.dataMReceived l cell) s = .next t) ∧
     (cell.header.type = 3 → exec (.flowReceived l cell) s = .next t) ∧
     (cell.header.type = 4 → exec (.mgmtReceived l cell) s = .next t) ∧
     (cell.header.type = 5 → exec (.syncReceived l cell elapsed) s = .next t) ∧
     (cell.header.type = 7 → exec (.testReceived l cell) s = .next t)) ∧
  (∀ (s : State) (l : LinkId) (cell : Cell) (elapsed : Nat) (t : State), s.inReset = false →
     crc8 cell.header.bytes7 = cell.header.hchk →
     crc16 (cell.payload.toList.take 62) ≠ half (cell.byte 62) (cell.byte 63) →
     t = ((s.countLink l .rxCells).countLink l .payloadErrors).report l .checkFailed →
     ((s.port l).unit.state = .up ∨ (s.port l).unit.state = .draining →
       (cell.header.type = 3 → exec (.flowReceived l cell) s = .next t) ∧
       (cell.header.type = 4 → exec (.mgmtReceived l cell) s = .next t) ∧
       (cell.header.type = 5 → exec (.syncReceived l cell elapsed) s = .next t)) ∧
     ((s.port l).unit.state = .qualify ∨ (s.port l).unit.state = .up ∨ (s.port l).unit.state = .draining →
       cell.header.type = 0 → exec (.idleReceived l cell) s = .next t)) ∧
  (∀ (s : State) (l : LinkId) (cell : Cell) (e : PortMapEntry), s.inReset = false → e = (s.port l).map →
     crc8 cell.header.bytes7 = cell.header.hchk →
     ((s.port l).unit.state = .qualify ∨ (s.port l).unit.state = .up ∨ (s.port l).unit.state = .draining →
       (∀ m : Bool, cell.header.type = 0 → crc16 (cell.payload.toList.take 62) = half (cell.byte 62) (cell.byte 63) →
         (m = true ↔ cell.byte 0 = 1 ∧ (e.expectId = 255 ∨ cell.byte 1 = e.expectId) ∧
           (e.expectLink = 255 ∨ cell.byte 2 = e.expectLink)) →
         exec (.idleReceived l cell) s = .next ((s.countLink l .rxCells).report l (.idle m))) ∧
       (cell.header.type = 6 → exec (.markerReceived l cell) s = .next ((s.countLink l .rxCells).report l .marker))) ∧
     ((s.port l).unit.state = .up ∨ (s.port l).unit.state = .draining → cell.header.type = 7 →
       exec (.testReceived l cell) s = .next ((s.countLink l .rxCells).report l .other)))

/-- R19, R60, R62, R63: a DATA_U cell in UP or DRAINING, by its DEST and by the ACTIVE Destination entry it names. -/
def Obligations.UnicastCells : Prop :=
  ∀ (s : State) (l : LinkId) (cell : Cell) (s' : State), s.inReset = false →
    (s.port l).unit.state = .up ∨ (s.port l).unit.state = .draining →
    crc8 cell.header.bytes7 = cell.header.hchk → cell.header.type = 1 → s' = s.countLink l .rxCells →
    (120 ≤ cell.header.dest.toNat →
      exec (.dataUReceived l cell) s = .next ((s'.countLink l .unknownDest).report l .other)) ∧
    ∀ (d : Dcn), cell.header.dest.toNat = d.val →
      (s.routes.destBad[d] = true →
        exec (.dataUReceived l cell) s = .next ((s'.countLink l .routeCheckDiscards).report l .other)) ∧
      (s.routes.destBad[d] = false → s.routes.active.dest[d].intact = false →
        exec (.dataUReceived l cell) s =
          .next (((((s'.modRoutes fun r => { r with destBad := r.destBad.set d true }).latch .routeCheck).countElement
            .routeCheckFound).countLink l .routeCheckDiscards).report l .other)) ∧
      (s.routes.destBad[d] = false → s.routes.active.dest[d].intact = true →
        s.routes.active.dest[d].contents.valid = false →
        exec (.dataUReceived l cell) s = .next ((s'.countLink l .unknownDest).report l .other)) ∧
      (s.routes.destBad[d] = false → s.routes.active.dest[d].intact = true →
        s.routes.active.dest[d].contents.valid = true →
        (s.liveTarget d = none →
          exec (.dataUReceived l cell) s = .next ((s'.countLink l .unreachable).report l .other)) ∧
        ∀ (target : LinkId) (c : ClassId), s.liveTarget d = some target → c.val = cell.header.cls.toNat →
          exec (.dataUReceived l cell) s =
            .next (((s'.advancePointer d).admitUnicast l c cell target).report l .other))

/-- R57, R61: the search from pointer p over n members: with a live member at distance k and none nearer, member (p + k) mod n is
the target and the pointer becomes ((p + k) + 1) mod n, and nothing else changes; with none, there is no target and the pointer
stays. -/
def Obligations.SearchForLiveMember : Prop :=
  ∀ (s : State) (d : Dcn) (n p : Nat), n = s.routes.active.dest[d].contents.count.toNat → p = s.routes.pointer[d].val →
    DestPossible s.routes.active.dest[d].contents → s.routes.active.dest[d].contents.valid = true →
    (∀ (k : Nat) (target : LinkId), k < n →
      s.routes.active.dest[d].contents.members.toList[(p + k) % n]? = some (BitVec.ofNat 8 target.val) →
      (s.port target).unit.state = .up →
      (∀ j m, j < k → s.routes.active.dest[d].contents.members.toList[(p + j) % n]? = some (BitVec.ofNat 8 m) →
        ∀ h : m < 64, (s.port ⟨m, h⟩).unit.state ≠ .up) →
      s.liveTarget d = some target ∧
      s.advancePointer d =
        { s with routes :=
          { s.routes with pointer := s.routes.pointer.set d (Fin.ofNat 4 (((p + k) % n + 1) % n)) } }) ∧
    ((∀ k m, k < n → s.routes.active.dest[d].contents.members.toList[k]? = some (BitVec.ofNat 8 m) →
      ∀ h : m < 64, (s.port ⟨m, h⟩).unit.state ≠ .up) →
      s.liveTarget d = none ∧ s.advancePointer d = s)

/-- R19, R64, R66: a DATA_M cell in UP or DRAINING, by its DEST, by the ACTIVE Group entry it names and by the target list that
its members give. -/
def Obligations.MulticastCells : Prop :=
  ∀ (s : State) (l : LinkId) (cell : Cell) (s' : State), s.inReset = false →
    (s.port l).unit.state = .up ∨ (s.port l).unit.state = .draining →
    crc8 cell.header.bytes7 = cell.header.hchk → cell.header.type = 2 → s' = s.countLink l .rxCells →
    (512 ≤ cell.header.dest.toNat →
      exec (.dataMReceived l cell) s = .next ((s'.countLink l .unknownDest).report l .other)) ∧
    ∀ (g : GroupId), cell.header.dest.toNat = g.val →
      (s.routes.groupBad[g] = true →
        exec (.dataMReceived l cell) s = .next ((s'.countLink l .routeCheckDiscards).report l .other)) ∧
      (s.routes.groupBad[g] = false → s.routes.active.group[g].intact = false →
        exec (.dataMReceived l cell) s =
          .next (((((s'.modRoutes fun r => { r with groupBad := r.groupBad.set g true }).latch .routeCheck).countElement
            .routeCheckFound).countLink l .routeCheckDiscards).report l .other)) ∧
      (s.routes.groupBad[g] = false → s.routes.active.group[g].intact = true →
        s.routes.active.group[g].contents.valid = false →
        exec (.dataMReceived l cell) s = .next ((s'.countLink l .unknownDest).report l .other)) ∧
      (s.routes.groupBad[g] = false → s.routes.active.group[g].intact = true →
        s.routes.active.group[g].contents.valid = true →
        ∀ a, a = s'.resolveMembers l g →
          (a.targets = [] → exec (.dataMReceived l cell) s = .next ((a.state.countLink l .unreachable).report l .other)) ∧
          ∀ c : ClassId, a.targets ≠ [] → c.val = cell.header.cls.toNat →
            exec (.dataMReceived l cell) s =
              .next ((a.state.admitMulticast l c cell a.targets).report l .other))

/-- R65: the members of a usable Group entry, the first COUNT in their stored order, are taken one at a time, each in the state and
with the target list that those before it left, under the entry's ECHO. One member: lost when its Destination entry is marked,
failing or invalid or has no live member, skipped under echo suppression, and otherwise a target at the end of the list. -/
def Obligations.MulticastMembers : Prop :=
  (∀ (s : State) (arrival : LinkId) (g : GroupId) (e : GroupContents) (ds : List Dcn),
    e = s.routes.active.group[g].contents →
    ds.map (fun d => BitVec.ofNat 8 d.val) = e.members.toList.take e.count.toNat →
    s.resolveMembers arrival g = ds.foldl (resolveMember arrival e.echo) { state := s, targets := [] }) ∧
  ∀ (arrival : LinkId) (echo : Bool) (a : Resolving) (d : Dcn) (e : DestContents),
    e = a.state.routes.active.dest[d].contents →
    (a.state.routes.destBad[d] = true →
      resolveMember arrival echo a d = { a with state := a.state.countLink arrival .mcastCopyLoss }) ∧
    (a.state.routes.destBad[d] = false → a.state.routes.active.dest[d].intact = false →
      resolveMember arrival echo a d =
        { a with state := (((a.state.modRoutes fun r => { r with destBad := r.destBad.set d true }).latch .routeCheck).countElement
            .routeCheckFound).countLink arrival .mcastCopyLoss }) ∧
    (a.state.routes.destBad[d] = false → a.state.routes.active.dest[d].intact = true → e.valid = false →
      resolveMember arrival echo a d = { a with state := a.state.countLink arrival .mcastCopyLoss }) ∧
    (a.state.routes.destBad[d] = false → a.state.routes.active.dest[d].intact = true → e.valid = true → DestPossible e →
      (echo = false → BitVec.ofNat 8 arrival.val ∈ e.members.toList.take e.count.toNat →
        resolveMember arrival echo a d = a) ∧
      (echo = true ∨ BitVec.ofNat 8 arrival.val ∉ e.members.toList.take e.count.toNat →
        (a.state.liveTarget d = none →
          resolveMember arrival echo a d = { a with state := a.state.countLink arrival .mcastCopyLoss }) ∧
        ∀ target, a.state.liveTarget d = some target →
          resolveMember arrival echo a d =
            { state := a.state.advancePointer d, targets := a.targets ++ [target] }))

/-- R49, R52: the three sets of the route store; a storage upset leaves the given contents in the entry it falls on, whose check then
fails; bad marks, pointers, other entries and every other block are as they were. -/
def Obligations.StorageUpsets : Prop :=
  (∀ r : RouteStore, r.get .stageA = r.stageA ∧ r.get .stageB = r.stageB ∧ r.get .active = r.active) ∧
  (∀ (s : State) (f : RouteStore → RouteStore), s.modRoutes f = { s with routes := f s.routes }) ∧
  ∀ (s : State), s.inReset = false →
    (∀ (set : RouteSetId) (d : Dcn) (x : DestContents), ∃ r : RouteStore,
      exec (.storageUpset (.dest set d x)) s = .next { s with routes := r } ∧
      (r.get set).dest[d] = { contents := x, intact := false } ∧
      (∀ e : Dcn, e ≠ d → (r.get set).dest[e] = (s.routes.get set).dest[e]) ∧
      (r.get set).group = (s.routes.get set).group ∧
      (∀ other, other ≠ set → r.get other = s.routes.get other) ∧
      r.destBad = s.routes.destBad ∧ r.groupBad = s.routes.groupBad ∧ r.pointer = s.routes.pointer) ∧
    (∀ (set : RouteSetId) (g : GroupId) (x : GroupContents), ∃ r : RouteStore,
      exec (.storageUpset (.group set g x)) s = .next { s with routes := r } ∧
      (r.get set).group[g] = { contents := x, intact := false } ∧
      (∀ e : GroupId, e ≠ g → (r.get set).group[e] = (s.routes.get set).group[e]) ∧
      (r.get set).dest = (s.routes.get set).dest ∧
      (∀ other, other ≠ set → r.get other = s.routes.get other) ∧
      r.destBad = s.routes.destBad ∧ r.groupBad = s.routes.groupBad ∧ r.pointer = s.routes.pointer)

/-! ## Cell buffer and output queues -/

/-- R95: the admission threshold T = min(1024, max(2, floor(F × 2^a / 8))): it lies in 2 to 1024, is computed from F and the
class's code alone, and with the default codes meets its cap from F = 256, 512, 1024 and 2048 for classes 0 to 3; a code of 0
gives at most 512, reached with the buffer empty; and when F is 0 every target is refused BUFFER_FULL whatever T is. -/
def Obligations.AdmissionThreshold : Prop :=
  (∀ (s : State) (c : ClassId),
    s.threshold c = min 1024 (max 2 (s.buffer.free * 2 ^ s.param (.alpha c) / 8)) ∧
    2 ≤ s.threshold c ∧ s.threshold c ≤ 1024) ∧
  (∀ s t : State, ∀ c : ClassId, s.buffer.free = t.buffer.free → s.param (.alpha c) = t.param (.alpha c) →
    s.threshold c = t.threshold c) ∧
  (∀ s : State, s.agent.params = Params.reset →
    (s.threshold 0 = 1024 ↔ 256 ≤ s.buffer.free) ∧ (s.threshold 1 = 1024 ↔ 512 ≤ s.buffer.free) ∧
    (s.threshold 2 = 1024 ↔ 1024 ≤ s.buffer.free) ∧ (s.threshold 3 = 1024 ↔ 2048 ≤ s.buffer.free)) ∧
  (∀ (s : State) (c : ClassId), s.param (.alpha c) = 0 → s.buffer.free ≤ 4096 →
    s.threshold c ≤ 512 ∧ (s.buffer.free = 4096 → s.threshold c = 512)) ∧
  ∀ (s : State) (arrival : LinkId) (c : ClassId) (cell : Cell) (targets : List LinkId), s.buffer.free = 0 →
    (∀ target, s.admitUnicast arrival c cell target = s.countLink arrival .bufferFull) ∧
    s.judgeTargets c targets = { admitted := [], refused := targets.map fun l => (l, .bufferFull) }

/-- R97 to R101: a unicast cell is refused and counted on its arrival link by the first case that applies, and otherwise admitted to
its one target. Of a multicast cell with F at 0 every target is refused; otherwise the targets are judged in order against one
threshold, each queue and the pool counting the targets admitted before; every refused target counts in MCAST_COPY_DROP of its
link, and a cell with no target admitted counts on its arrival link by its last target's reason. -/
def Obligations.AdmissionCases : Prop :=
  (∀ (s : State) (arrival : LinkId) (c : ClassId) (cell : Cell) (target : LinkId),
     (s.buffer.free = 0 → s.admitUnicast arrival c cell target = s.countLink arrival .bufferFull) ∧
     (1 ≤ s.buffer.free → s.threshold c ≤ s.queueLength target c →
       s.admitUnicast arrival c cell target = s.countLink arrival .queueLimit) ∧
     (1 ≤ s.buffer.free → s.queueLength target c < s.threshold c → s.buffer.freeDesc = 0 →
       s.admitUnicast arrival c cell target = s.countLink arrival .bufferFull) ∧
     (1 ≤ s.buffer.free → s.queueLength target c < s.threshold c → 1 ≤ s.buffer.freeDesc →
       s.admitUnicast arrival c cell target = s.admitCell c cell [target])) ∧
  (∀ (s : State) (arrival : LinkId) (c : ClassId) (cell : Cell) (targets : List LinkId),
     (s.buffer.free = 0 →
       s.judgeTargets c targets = { admitted := [], refused := targets.map fun l => (l, .bufferFull) }) ∧
     (1 ≤ s.buffer.free → s.judgeTargets c [] = { admitted := [], refused := [] }) ∧
     (1 ≤ s.buffer.free → ∀ (l : LinkId) (j : Judged), j = s.judgeTargets c targets →
       (s.threshold c ≤ s.queueLength l c + j.admitted.count l →
         s.judgeTargets c (targets ++ [l]) = { j with refused := j.refused ++ [(l, .queueLimit)] }) ∧
       (s.queueLength l c + j.admitted.count l < s.threshold c → s.buffer.freeDesc ≤ j.admitted.length →
         s.judgeTargets c (targets ++ [l]) = { j with refused := j.refused ++ [(l, .bufferFull)] }) ∧
       (s.queueLength l c + j.admitted.count l < s.threshold c → j.admitted.length < s.buffer.freeDesc →
         s.judgeTargets c (targets ++ [l]) = { j with admitted := j.admitted ++ [l] })) ∧
     (∀ j, j = s.judgeTargets c targets → j.admitted ≠ [] →
       s.admitMulticast arrival c cell targets =
         j.refused.foldl (fun t r => t.countLink r.1 .mcastCopyDrop) (s.admitCell c cell j.admitted)) ∧
     (∀ j l why, j = s.judgeTargets c targets → j.admitted = [] → j.refused.getLast? = some (l, why) →
       s.admitMulticast arrival c cell targets =
         (j.refused.foldl (fun t r => t.countLink r.1 .mcastCopyDrop) s).countLink arrival
           (if why = .queueLimit then .queueLimit else .bufferFull)))

/-- R90 to R92, R97, R99, R102, R106, R108: what an admission does: one slot, free before, holds the cell with one reference for
each target; F falls by 1 and D by the number of targets; each target's queue gets a descriptor of that slot at its tail, in list
order, and its flag becomes XOFF at or above XOFF_HI; the global congestion flag follows the new F, and its setting latches
GLOBAL_CONGESTION; each flag that changes is one change notice; the exhaustion flags are latched when F or D is left at 0; nothing
else changes. -/
def Obligations.AdmissionEffect : Prop :=
  ∀ (s : State) (c : ClassId) (cell : Cell) (targets : List LinkId) (t : State),
    s.BufferConserved → 1 ≤ s.buffer.free → targets ≠ [] → targets.length ≤ s.buffer.freeDesc →
    t = s.admitCell c cell targets →
    ∃ id : Nat, id < 4096 ∧ (∀ x ∈ s.buffer.slots, x.id ≠ id) ∧
      (∀ x, x ∈ t.buffer.slots ↔ x ∈ s.buffer.slots ∨ x = { id := id, cell := cell, refs := targets.length }) ∧
      t.buffer.free + 1 = s.buffer.free ∧ t.buffer.freeDesc + targets.length = s.buffer.freeDesc ∧
      (∀ (l : LinkId) (k : ClassId), (t.port l).queues.lists[k] =
        (s.port l).queues.lists[k] ++ (if k = c then List.replicate (targets.count l) id else [])) ∧
      (t.buffer.free = 0 → t.elementFlag .bufferExhausted = true) ∧
      (t.buffer.freeDesc = 0 → t.elementFlag .poolExhausted = true) ∧
      (0 < t.buffer.free → t.elementFlag .bufferExhausted = s.elementFlag .bufferExhausted) ∧
      (0 < t.buffer.freeDesc → t.elementFlag .poolExhausted = s.elementFlag .poolExhausted) ∧
      (∀ (l : LinkId) (k : ClassId), (t.port l).queues.xoff[k] =
        (if k = c ∧ 0 < targets.count l ∧ s.param (.xoffHi c) ≤ (t.port l).queues.lists[c].length then true
         else (s.port l).queues.xoff[k])) ∧
      t.buffer.congested =
        (if t.buffer.free < s.param .fPanic then true
         else if s.param .fResume ≤ t.buffer.free then false else s.buffer.congested) ∧
      (t.elementFlag .globalCongestion = true ↔
        s.elementFlag .globalCongestion = true ∨ (s.buffer.congested = false ∧ t.buffer.congested = true)) ∧
      (∀ f, f ≠ .bufferExhausted → f ≠ .poolExhausted → f ≠ .globalCongestion → t.elementFlag f = s.elementFlag f) ∧
      (∀ u v w : State, u = (if s.buffer.congested = false ∧ t.buffer.congested = true then s.latch .globalCongestion else s) →
        v = (if t.buffer.free = 0 then u.latch .bufferExhausted else u) →
        w = (if t.buffer.freeDesc = 0 then v.latch .poolExhausted else v) → t.notice = w.notice) ∧
      (∀ (n : Nat) (u : State),
        n = (allLinks.countP fun l => decide ((t.port l).queues.xoff[c] ≠ (s.port l).queues.xoff[c])) +
          (if t.buffer.congested = s.buffer.congested then 0 else 1) →
        u = Nat.iterate State.changeNotice n s →
        t.flow = u.flow ∧
        ∀ l, t.port l = { s.port l with
          queues := { (s.port l).queues with lists := (t.port l).queues.lists, xoff := (t.port l).queues.xoff }
          flowDue := (u.port l).flowDue }) ∧
      t.routes = s.routes ∧ t.epoch = s.epoch ∧ t.agent = s.agent ∧ t.commit = s.commit ∧
      t.boot = s.boot ∧ t.elementCounters = s.elementCounters

/-- R91, R92, R103, R106, R108: removing the head of a queue: the rest stays queued in order, D rises by 1, the slot loses one
reference and is freed with its last, F then rising by 1; the XOFF flag of the queue becomes XON at or below XOFF_LO; the global
congestion flag follows the new F when F has changed, and its setting latches GLOBAL_CONGESTION; each of the two flags that changes
is one change notice; nothing else changes. -/
def Obligations.HeadRemoval : Prop :=
  ∀ (s : State) (l : LinkId) (c : ClassId) (id : Nat) (rest : List Nat) (x : Slot) (t : State),
    s.BufferConserved → (s.port l).queues.lists[c] = id :: rest → x ∈ s.buffer.slots → x.id = id →
    t = s.removeHead l c id rest →
    (t.port l).queues.lists[c] = rest ∧
    (∀ m k, m ≠ l ∨ k ≠ c → (t.port m).queues.lists[k] = (s.port m).queues.lists[k]) ∧
    t.buffer.freeDesc = s.buffer.freeDesc + 1 ∧
    (x.refs = 1 → t.buffer.free = s.buffer.free + 1 ∧
      t.buffer.congested =
        (if t.buffer.free < s.param .fPanic then true
         else if s.param .fResume ≤ t.buffer.free then false else s.buffer.congested) ∧
      ∀ y, y ∈ t.buffer.slots ↔ y ∈ s.buffer.slots ∧ y.id ≠ id) ∧
    (1 < x.refs → t.buffer.free = s.buffer.free ∧ t.buffer.congested = s.buffer.congested ∧
      ∀ y, y ∈ t.buffer.slots ↔ (y ∈ s.buffer.slots ∧ y.id ≠ id) ∨ y = { x with refs := x.refs - 1 }) ∧
    (rest.length ≤ s.param (.xoffLo c) → (t.port l).queues.xoff[c] = false) ∧
    (s.param (.xoffLo c) < rest.length → (t.port l).queues.xoff[c] = (s.port l).queues.xoff[c]) ∧
    (∀ m k, m ≠ l ∨ k ≠ c → (t.port m).queues.xoff[k] = (s.port m).queues.xoff[k]) ∧
    t.notice = (if s.buffer.congested = false ∧ t.buffer.congested = true then s.latch .globalCongestion else s).notice ∧
    (∀ (n : Nat) (u : State), n = (if (t.port l).queues.xoff[c] = (s.port l).queues.xoff[c] then 0 else 1) +
        (if t.buffer.congested = s.buffer.congested then 0 else 1) →
      u = Nat.iterate State.changeNotice n s →
      t.flow = u.flow ∧
      ∀ m, t.port m = { s.port m with
        queues := { (s.port m).queues with lists := (t.port m).queues.lists, xoff := (t.port m).queues.xoff }
        flowDue := (u.port m).flowDue }) ∧
    t.routes = s.routes ∧ t.commit = s.commit ∧ t.epoch = s.epoch ∧ t.agent = s.agent ∧ t.boot = s.boot ∧
    t.elementCounters = s.elementCounters

/-- R106 to R108: the XOFF evaluations after an append, after a removal and at a change of the thresholds, and the evaluation of the
global congestion flag; a flag that changes is a change notice, and setting the global flag latches GLOBAL_CONGESTION. -/
def Obligations.CongestionEvaluations : Prop :=
  (∀ (s : State) (l : LinkId) (c : ClassId), s.queueLength l c = (s.port l).queues.lists[c].length) ∧
  (∀ (s : State) (l : LinkId) (c : ClassId) (b : Bool),
    ((s.port l).queues.xoff[c] = b → s.setXoff l c b = s) ∧
    ((s.port l).queues.xoff[c] ≠ b →
      s.setXoff l c b =
        (s.modPort l fun p => { p with queues := { p.queues with xoff := p.queues.xoff.set c b } }).changeNotice)) ∧
  (∀ (s : State) (l : LinkId) (c : ClassId),
    s.xoffAfterAppend l c = (if s.param (.xoffHi c) ≤ s.queueLength l c then s.setXoff l c true else s) ∧
    s.xoffAfterRemoval l c = (if s.queueLength l c ≤ s.param (.xoffLo c) then s.setXoff l c false else s) ∧
    s.xoffReevaluate l c =
      (if s.param (.xoffHi c) ≤ s.queueLength l c then s.setXoff l c true
       else if s.queueLength l c ≤ s.param (.xoffLo c) then s.setXoff l c false else s)) ∧
  (∀ s : State,
    (s.buffer.free < s.param .fPanic → s.buffer.congested = false →
      s.evalCongestion =
        (({ s with buffer := { s.buffer with congested := true } } : State).changeNotice).latch .globalCongestion) ∧
    (s.param .fPanic ≤ s.buffer.free → s.param .fResume ≤ s.buffer.free → s.buffer.congested = true →
      s.evalCongestion = ({ s with buffer := { s.buffer with congested := false } } : State).changeNotice) ∧
    (s.param .fPanic ≤ s.buffer.free → s.buffer.free < s.param .fResume → s.evalCongestion = s) ∧
    (s.buffer.free < s.param .fPanic → s.buffer.congested = true → s.evalCongestion = s) ∧
    (s.param .fPanic ≤ s.buffer.free → s.buffer.congested = false → s.evalCongestion = s))

/-- R109 to R111, R29: a flush request sets the flag, does nothing while one stands, and completes at once when the queues are
empty; each removal takes the head of the first class that holds descriptors and counts in FLUSHED; the completion makes every
flag XON, clears the flush flag and takes a link that waits in QUALIFY with its note set to UP. -/
def Obligations.Flushes : Prop :=
  ∀ (s : State) (l : LinkId) (q : LinkQueues), q = (s.port l).queues →
    q.total = q.lists[(0 : ClassId)].length + q.lists[(1 : ClassId)].length + q.lists[(2 : ClassId)].length +
      q.lists[(3 : ClassId)].length ∧
    (q.flushing = true → s.requestFlush l = s) ∧
    (q.flushing = false → 0 < q.total →
      s.requestFlush l = s.modPort l fun p => { p with queues := { p.queues with flushing := true } }) ∧
    (q.flushing = false → q.total = 0 → ((s.port l).unit.state ≠ .qualify ∨ (s.port l).unit.qualified = false) →
      s.requestFlush l =
        s.modPort l fun p => { p with queues := { p.queues with xoff := Vector.replicate 4 false, flushing := false } }) ∧
    (s.inReset = false → q.flushing = true →
      (∀ (c : ClassId) (id : Nat) (rest : List Nat), (∀ k : ClassId, k < c → q.lists[k] = []) → q.lists[c] = id :: rest →
        exec (.flushRemoval l) s = .next ((s.removeHead l c id rest).countLink l .flushed)) ∧
      ((∀ c : ClassId, q.lists[c] = []) →
        ∀ t, t = (s.modPort l fun p =>
            { p with queues := { p.queues with xoff := Vector.replicate 4 false, flushing := false } }) →
          ((s.port l).unit.state = .qualify → (s.port l).unit.qualified = true →
            exec (.flushCompletion l) s = .next (t.enterUp l)) ∧
          ((s.port l).unit.state ≠ .qualify ∨ (s.port l).unit.qualified = false →
            exec (.flushCompletion l) s = .next t)))

/-! ## Congestion signalling and credits -/

/-- R120, R121: a change notice with the gap timer idle sets FLOW-due on every link in UP or DRAINING and starts the timer for
FLOW_GAP, and with the timer running sets map-change-pending alone; at gap expiry a set pending flag is cleared, FLOW-due is set
on every link then in UP or DRAINING and the timer starts again, and with pending clear the timer becomes idle. The refresh (R123), at a
boundary delivered to the flow unit, sets FLOW-due on every link in UP or DRAINING and leaves the gap timer and
map-change-pending as they were. (A boundary waits in the flow unit until its refresh is taken, log entry 12; a gap expiry in the
queue of commands is taken while the timer runs, whatever time is left to it, log entry 3.) -/
def Obligations.ChangeNoticesGapAndRefresh : Prop :=
  ((∀ s : State, s.flow.gapTimer = none →
     s.changeNotice =
       { s with
         ports := s.ports.map fun p => { p with flowDue := p.flowDue || (p.unit.state == .up || p.unit.state == .draining) }
         flow := { s.flow with gapTimer := some (s.param .flowGap) } }) ∧
   (∀ (s : State) (n : Nat), s.flow.gapTimer = some n →
     s.changeNotice = { s with flow := { s.flow with mapPending := true } }) ∧
   (∀ (s : State) (n : Nat), s.inReset = false → s.flow.gapTimer = some n → s.flow.mapPending = true →
     exec .gapTimerExpiry s =
       .next { s with
         ports := s.ports.map fun p => { p with flowDue := p.flowDue || (p.unit.state == .up || p.unit.state == .draining) }
         flow := { s.flow with mapPending := false, gapTimer := some (s.param .flowGap) } }) ∧
   (∀ (s : State) (n : Nat), s.inReset = false → s.flow.gapTimer = some n → s.flow.mapPending = false →
     exec .gapTimerExpiry s = .next { s with flow := { s.flow with gapTimer := none } })) ∧
  (∀ (s : State) (n : Nat), s.inReset = false → s.flow.boundaries = n + 1 →
     exec .refresh s =
       .next { s with
         ports := s.ports.map fun p => { p with flowDue := p.flowDue || (p.unit.state == .up || p.unit.state == .draining) }
         flow := { s.flow with boundaries := n } })

/-- R3, R5, R6, R8, R116 to R118: the bit of the congestion map for (d, c), true for XOFF; and the FLOW cell built from the state: TYPE
3 with the other header fields zero, the epoch in payload bytes 0 and 1, bit (d, c) of the map at bit 7 − ((4d + c) mod 8) of
payload byte 2 + floor((4d + c) / 8), and both checks good. -/
def Obligations.FlowCellAndCongestionMap : Prop :=
  (∀ (s : State) (d : Dcn) (c : ClassId) (e : DestContents) (live : LinkId → Prop), e = s.routes.active.dest[d].contents →
     (∀ l, live l ↔ (s.port l).unit.state = .up ∧
       BitVec.ofNat 8 l.val ∈ e.members.toList.take (min 4 e.count.toNat)) →
     (s.mapBit d c = true ↔
       e.valid = false ∨ s.routes.destBad[d] = true ∨ (∀ l, ¬ live l) ∨
         (∃ l, live l ∧ (s.port l).queues.xoff[c] = true) ∨ (c ≠ 0 ∧ s.buffer.congested = true))) ∧
  (∀ (s : State), s.flowCell.header.type = 3 ∧ s.flowCell.header.cls = 0 ∧ s.flowCell.header.dest = 0 ∧
     s.flowCell.header.context = 0 ∧ s.flowCell.headerOk = true ∧ s.flowCell.payloadOk = true ∧
     half (s.flowCell.byte 0) (s.flowCell.byte 1) = s.epoch.count ∧
     ∀ (d : Dcn) (c : ClassId),
       (s.flowCell.byte (2 + (4 * d.val + c.val) / 8)).getLsbD (7 - (4 * d.val + c.val) % 8) = s.mapBit d c)

/-- R7, R16, R127, R128, R184: the four grants of a FLOW cell with good checks on a link in UP or DRAINING, each judged on its own:
accepted when (g − S) mod 256 is at most CREDIT_MAX, and otherwise counted in CREDIT_REJECTS with CREDIT_ERROR latched, which makes a
notice pending when the flag was clear and its mask is clear; S is as it was. The cell counts in RX_CELLS and, as every report but
MARKER does, sets the remote-marker run to 0 (R35); nothing else changes. -/
def Obligations.CreditGrants : Prop :=
  ∀ (s : State) (l : LinkId) (cell : Cell), s.inReset = false →
    (s.port l).unit.state = .up ∨ (s.port l).unit.state = .draining →
    cell.headerOk = true → cell.header.type = 3 → cell.payloadOk = true →
    ∃ t, exec (.flowReceived l cell) s = .next t ∧
      (∀ c : ClassId,
        (t.port l).credit.granted[c] =
          (if (cell.byte c.val - (s.port l).credit.sent[c]).toNat ≤ (s.port l).map.creditMax.toNat then cell.byte c.val
           else (s.port l).credit.granted[c]) ∧
        (t.port l).credit.sent[c] = (s.port l).credit.sent[c]) ∧
      ((t.port l).counters[(14 : Fin 15)]).toNat =
        min 4294967295 (((s.port l).counters[(14 : Fin 15)]).toNat +
          allClasses.countP fun c =>
            decide ((s.port l).map.creditMax.toNat < (cell.byte c.val - (s.port l).credit.sent[c]).toNat)) ∧
      (t.linkFlag l .creditError = true ↔ s.linkFlag l .creditError = true ∨
        ∃ c : ClassId, (s.port l).map.creditMax.toNat < (cell.byte c.val - (s.port l).credit.sent[c]).toNat) ∧
      ((t.port l).counters[(0 : Fin 15)]).toNat = min 4294967295 (((s.port l).counters[(0 : Fin 15)]).toNat + 1) ∧
      (∀ i : Fin 15, i ≠ 0 → i ≠ 14 → (t.port l).counters[i] = (s.port l).counters[i]) ∧
      (∀ f, f ≠ .creditError → t.linkFlag l f = s.linkFlag l f) ∧
      t.port l = { s.port l with
        unit := { (s.port l).unit with markerRun := 0 }
        credit := (t.port l).credit
        counters := (t.port l).counters
        flags := (t.port l).flags } ∧
      (∀ m, m ≠ l → t.port m = s.port m) ∧
      (∀ rejected : Bool,
        (rejected = true ↔
          ∃ c : ClassId, (s.port l).map.creditMax.toNat < (cell.byte c.val - (s.port l).credit.sent[c]).toNat) →
        t.notice = { s.notice with
          pending := s.notice.pending ||
            (rejected && !s.linkFlag l .creditError && !s.notice.linkMasks.getLsbD (LinkFlag.bit .creditError)) }) ∧
      t = { s with ports := t.ports, notice := t.notice }

/-! ## Link transmit scheduling -/

/-- R12, R44, R135: what a readiness hands to the transmitter of a link that is not in UP or DRAINING, nothing while the element is
held in reset (R191, log entry 22); and the cells: IDLE (R9, R144)
with TYPE 0, every other header field zero, HCHK 00, SENDER_KIND ELEMENT, the identity, the link's number, E, the sync state, zeros
and a good payload check; MARKER (R11) with TYPE 6 and 64 zero bytes; TEST (R12) with TYPE 7 and the payload that `TestChecker`
gives bit by bit. -/
def Obligations.ReadinessOutOfService : Prop :=
  (∀ (s : State) (l : LinkId) (x : Cell), x = s.idleCell l →
    x.header.type = 0 ∧ x.header.cls = 0 ∧ x.header.dest = 0 ∧ x.header.context = 0 ∧ x.header.hchk = 0 ∧
    x.headerOk = true ∧ x.payloadOk = true ∧
    x.byte 0 = 2 ∧ x.byte 1 = s.agent.identity.setWidth 8 ∧ (x.byte 2).toNat = l.val ∧
    half (x.byte 3) (x.byte 4) = s.epoch.count ∧
    x.byte 5 = (match s.epoch.sync with | .free => 0 | .acquiring => 1 | .locked => 2 | .holdover => 3 | .lost => 4) ∧
    ∀ i, 6 ≤ i → i < 62 → x.byte i = 0) ∧
  (markerCell.header.type = 6 ∧ markerCell.header.cls = 0 ∧ markerCell.header.dest = 0 ∧ markerCell.header.context = 0 ∧
    markerCell.headerOk = true ∧ ∀ i, i < 64 → markerCell.byte i = 0) ∧
  (∀ (g : BitVec 31) (x : Cell), x = testCell g →
    x.header.type = 7 ∧ x.header.cls = 0 ∧ x.header.dest = 0 ∧ x.header.context = 0 ∧ x.headerOk = true ∧
    x.payload = patternPayload g) ∧
  (∀ (s : State) (l : LinkId), s.inReset = true →
    exec (.transmitReady l) s = .next (s.modPort l fun p => { p with transmitter := none })) ∧
  ∀ (s : State) (l : LinkId), s.inReset = false →
    ((s.port l).unit.state = .off →
      exec (.transmitReady l) s = .next (s.modPort l fun p => { p with transmitter := none })) ∧
    ((s.port l).unit.state = .blank ∨ (s.port l).unit.state = .seek ∨ (s.port l).unit.state = .qualify →
      exec (.transmitReady l) s = .next (s.modPort l fun p => { p with transmitter := some (s.idleCell l) })) ∧
    ((s.port l).unit.state = .test →
      exec (.transmitReady l) s =
        .next (s.modPort l fun p =>
          { p with transmitter := some (testCell p.unit.generator)
                   unit := { p.unit with generator := patternAdvance 512 p.unit.generator } })) ∧
    ((s.port l).unit.state = .fault → ∀ mode : Squelch,
      mode = (if s.param .squelchMode = 0 then .idle else if s.param .squelchMode = 1 then .marker
        else if s.param .squelchMode = 2 then .silent else (s.port l).map.squelch) →
      exec (.transmitReady l) s =
        .next (s.modPort l fun p =>
          { p with transmitter :=
              match mode with
              | .idle => some (s.idleCell l)
              | .marker => some markerCell
              | .silent => none }))

/-- R136 to R138, R141, R143, R144, R146: the selection on a link in UP or DRAINING: FLOW when it is due, else the head of the
control queue, else class 0 when it is eligible, else the round robin's class, else IDLE; each counts in TX_CELLS. -/
def Obligations.SelectionInService : Prop :=
  ∀ (s : State) (l : LinkId) (s' : State) (p : Port), s.inReset = false →
    (s.port l).unit.state = .up ∨ (s.port l).unit.state = .draining → s' = s.countLink l .txCells → p = s'.port l →
    (p.flowDue = true →
      exec (.transmitReady l) s =
        .next (s'.modPort l fun p => { p with transmitter := some s'.flowCell, flowDue := false })) ∧
    (p.flowDue = false → ∀ x rest, p.sched.control = x :: rest →
      exec (.transmitReady l) s =
        .next (s'.modPort l fun p =>
          { p with transmitter := some x.cell, sched := { p.sched with control := rest } })) ∧
    (p.flowDue = false → p.sched.control = [] →
      (p.eligible 0 = true → exec (.transmitReady l) s = .next (s'.sendData l 0)) ∧
      (p.eligible 0 = false → ∀ x : Scheduler,
        (∀ k, s'.roundRobin l = (x, some k) →
          exec (.transmitReady l) s = .next ((s'.modPort l fun p => { p with sched := x }).sendData l k.toClass)) ∧
        (s'.roundRobin l = (x, none) →
          exec (.transmitReady l) s =
            .next (s'.modPort l fun p => { p with sched := x, transmitter := some (s'.idleCell l) })))) ∧
    (∀ c : ClassId, p.eligible c = true ↔
      p.queues.lists[c] ≠ [] ∧ 1 ≤ (p.credit.granted[c] - p.credit.sent[c]).toNat ∧ p.queues.flushing = false)

/-- R103, R104, R129, R39: sending the head of a class's queue: the cell stored in its slot goes to the transmitter byte for byte, the
descriptor leaves its queue, S of the class rises by 1 modulo 256, and a link in DRAINING whose queues are then empty enters OFF. -/
def Obligations.SendingData : Prop :=
  ∀ (s : State) (l : LinkId) (c : ClassId) (x : Slot) (rest : List Nat) (u t : State),
    s.BufferConserved → (s.port l).queues.lists[c] = x.id :: rest → x ∈ s.buffer.slots →
    u = ((s.modPort l fun p => { p with transmitter := some x.cell }).removeHead l c x.id rest).modPort l
        (fun p => { p with credit := { p.credit with sent := p.credit.sent.set c (p.credit.sent[c] + 1) } }) →
    t = s.sendData l c →
    (((s.port l).unit.state ≠ .draining ∨ (u.port l).queues.total ≠ 0) → t = u) ∧
    ((s.port l).unit.state = .draining → (u.port l).queues.total = 0 →
      t = (u.modUnit l fun v => { v with state := .off, lossTimer := none }).emptyControl l) ∧
    (t.port l).transmitter = some x.cell ∧
    (t.port l).credit.sent[c] = (s.port l).credit.sent[c] + 1 ∧
    (∀ k : ClassId, k ≠ c → (t.port l).credit.sent[k] = (s.port l).credit.sent[k]) ∧
    (t.port l).credit.granted = (s.port l).credit.granted

/-- R142, R143: the round robin examines at most three classes from its position: an eligible class is selected, spends one of its
grant and gives up the turn with its last; one that is not eligible forfeits its grant and the position advances. -/
def Obligations.RoundRobinExamination : Prop :=
  ([RoundRobin.one, .two, .three].map RoundRobin.toClass = [1, 2, 3] ∧
   [RoundRobin.one, .two, .three].map RoundRobin.next = [.two, .three, .one]) ∧
  ∀ (s : State) (l : LinkId) (x : Scheduler) (e : RoundRobin → Bool), x = (s.port l).sched →
    (∀ k, e k = (s.port l).eligible k.toClass) →
    (e x.position = true → 2 ≤ x.grant →
      s.roundRobin l = ({ x with grant := x.grant - 1 }, some x.position)) ∧
    (e x.position = true → x.grant ≤ 1 →
      s.roundRobin l =
        ({ x with position := x.position.next, grant := s.param (.weight x.position.next) }, some x.position)) ∧
    (e x.position = false → e x.position.next = true → 2 ≤ s.param (.weight x.position.next) →
      s.roundRobin l =
        ({ x with position := x.position.next, grant := s.param (.weight x.position.next) - 1 }, some x.position.next)) ∧
    (e x.position = false → e x.position.next = true → s.param (.weight x.position.next) ≤ 1 →
      s.roundRobin l =
        ({ x with position := x.position.next.next, grant := s.param (.weight x.position.next.next) },
          some x.position.next)) ∧
    (e x.position = false → e x.position.next = false → e x.position.next.next = true →
      2 ≤ s.param (.weight x.position.next.next) →
      s.roundRobin l =
        ({ x with position := x.position.next.next, grant := s.param (.weight x.position.next.next) - 1 },
          some x.position.next.next)) ∧
    (e x.position = false → e x.position.next = false → e x.position.next.next = true →
      s.param (.weight x.position.next.next) ≤ 1 →
      s.roundRobin l =
        ({ x with position := x.position, grant := s.param (.weight x.position) }, some x.position.next.next)) ∧
    (e x.position = false → e x.position.next = false → e x.position.next.next = false →
      s.roundRobin l = ({ x with position := x.position, grant := s.param (.weight x.position) }, none))

/-! ## Route integrity and commits -/

/-- R72, R73, R77, R78, R82, R83, R184: one examination of the walk raises the position by 1 and stops at a failing entry; at check
completion a failing entry ends the commit CHECK_FAILED, a NOW commit that passed fires, and one with a target enters ARMED. At
the firing ACTIVE takes the selected stage with its checks as they are, every bad mark clears and every pointer is 0, the record
is written DONE, COMMIT_DONE is latched (which makes a notice pending as R184 gives), the flow unit takes a change notice, and nothing
else changes. -/
def Obligations.CheckWalkAndFiring : Prop :=
  (Stage.a.set = .stageA ∧ Stage.b.set = .stageB) ∧
  (∀ (s : State) (q : CommitRequest), s.inReset = false →
     (∀ n, s.commit.state = .checking q n none →
       (∀ d : Dcn, n = d.val →
         exec .walkExamination s =
           .next { s with commit := { s.commit with state := (.checking q (n + 1)
             (if (s.routes.get q.stage.set).dest[d].intact = true then none else some (.dest d))) } }) ∧
       (∀ g : GroupId, n = 120 + g.val →
         exec .walkExamination s =
           .next { s with commit := { s.commit with state := (.checking q (n + 1)
             (if (s.routes.get q.stage.set).group[g].intact = true then none else some (.group g))) } })) ∧
     (∀ n e, s.commit.state = .checking q n (some e) →
       exec .checkCompletion s =
         .next (({ s with commit := { s.commit with
           state := .idle, record := some { request := q, outcome := .checkFailed e, epoch := s.epoch.count } } } : State).latch
             .commitFailed)) ∧
     (s.commit.state = .checking q 632 none → q.now = true → exec .checkCompletion s = .next (s.fire q s.epoch.count)) ∧
     (s.commit.state = .checking q 632 none → q.now = false →
       exec .checkCompletion s = .next { s with commit := { s.commit with state := .armed q } })) ∧
  (∀ (s : State) (q : CommitRequest) (e : Half) (t : State), t = s.fire q e →
     t.routes.active = (match q.stage with | .a => s.routes.stageA | .b => s.routes.stageB) ∧
     t.routes.stageA = s.routes.stageA ∧ t.routes.stageB = s.routes.stageB ∧
     (∀ d : Dcn, t.routes.destBad[d] = false ∧ t.routes.pointer[d] = 0) ∧ (∀ g : GroupId, t.routes.groupBad[g] = false) ∧
     t.commit = { s.commit with state := .idle, record := some { request := q, outcome := .done, epoch := e } } ∧
     t.elementFlag .commitDone = true ∧ t.notice = (s.latch .commitDone).notice ∧ t.flow = s.changeNotice.flow ∧ t.ports = s.changeNotice.ports ∧
     t.buffer = s.buffer ∧ t.epoch = s.epoch ∧ t.agent = s.agent ∧ t.boot = s.boot ∧ t.elementCounters = s.elementCounters)

/-- R1, R75, R76, R85, R86: what a boundary does to the commit in progress, in the order of the cases; COMMIT_BOUNDARY handles the
oldest delivered boundary: the commit first, then SCRUB_RATE visits in turn, each of which marks and reports the entry at the
scrub position when it is unmarked and fails its check, and moves the position on by 1 modulo 632. -/
def Obligations.CommitsAndScrubAtBoundaries : Prop :=
  ((∀ n e : Half, ahead n e = true ↔ 1 ≤ (n - e).toNat ∧ (n - e).toNat ≤ 32767) ∧
   ∀ (s : State) (b : Boundary) (q : CommitRequest) (ended : CommitOutcome → State),
     (∀ o, ended o = (({ s with commit := { s.commit with
       state := .idle, record := some { request := q, outcome := o, epoch := b.epoch } } } : State).latch .commitFailed)) →
     (s.commit.state = .idle → s.commitAtBoundary b = s) ∧
     (∀ n f, s.commit.state = .checking q n f →
       (q.now = true → s.commitAtBoundary b = s) ∧
       (q.now = false → ahead q.target b.epoch = true → s.commitAtBoundary b = s) ∧
       (q.now = false → ahead q.target b.epoch = false → s.commitAtBoundary b = ended .late)) ∧
     (s.commit.state = .armed q →
       (b.lost = true → s.commitAtBoundary b = ended .abandoned) ∧
       (b.lost = false → b.epoch = q.target → s.commitAtBoundary b = s.fire q b.epoch) ∧
       (b.lost = false → b.epoch ≠ q.target → ahead q.target b.epoch = true → s.commitAtBoundary b = s) ∧
       (b.lost = false → b.epoch ≠ q.target → ahead q.target b.epoch = false → s.commitAtBoundary b = ended .late))) ∧
  ((∀ (s : State) (b : Boundary) (rest : List Boundary) (t : State), s.inReset = false → s.commit.boundaries = b :: rest →
     t = ({ s with commit := { s.commit with boundaries := rest } } : State).commitAtBoundary b →
     exec .commitBoundary s = .next (Nat.iterate State.scrubOne (s.param .scrubRate) t)) ∧
   (∀ (s t : State), t = s.scrubOne →
     t.commit = { s.commit with scrub := Fin.ofNat 632 ((s.commit.scrub.val + 1) % 632) } ∧
     (∀ d : Dcn, s.commit.scrub.val = d.val →
       (s.routes.destBad[d] = true ∨ s.routes.active.dest[d].intact = true →
         t.routes = s.routes ∧ t.notice = s.notice ∧ t.elementCounters = s.elementCounters) ∧
       (s.routes.destBad[d] = false → s.routes.active.dest[d].intact = false →
         t.routes = { s.routes with destBad := s.routes.destBad.set d true } ∧ t.notice = (s.latch .routeCheck).notice ∧
         t.elementCounters = (s.countElement .routeCheckFound).elementCounters)) ∧
     (∀ g : GroupId, s.commit.scrub.val = 120 + g.val →
       (s.routes.groupBad[g] = true ∨ s.routes.active.group[g].intact = true →
         t.routes = s.routes ∧ t.notice = s.notice ∧ t.elementCounters = s.elementCounters) ∧
       (s.routes.groupBad[g] = false → s.routes.active.group[g].intact = false →
         t.routes = { s.routes with groupBad := s.routes.groupBad.set g true } ∧ t.notice = (s.latch .routeCheck).notice ∧
         t.elementCounters = (s.countElement .routeCheckFound).elementCounters)) ∧
     t.ports = s.ports ∧ t.buffer = s.buffer ∧ t.flow = s.flow ∧ t.epoch = s.epoch ∧ t.agent = s.agent ∧ t.boot = s.boot))

/-- R71, R81, R82, R83, R166: COMMIT and CANCEL_COMMIT, served from the head of the request queue. -/
def Obligations.CommitRequests : Prop :=
  ∀ (s u : State) (r : Request) (rest : List Request) (f : Fields), s.inReset = false → s.agent.requests = r :: rest →
    f = r.fields → u = s.dropRequest rest →
    (f.command = 0x10 → f.arg.getLsbD 1 = false →
      (s.commit.state ≠ .idle → exec .commit s = .next (u.respond r .busy [])) ∧
      (s.commit.state = .idle → ahead f.index s.epoch.count = false → exec .commit s = .next (u.respond r .late [])) ∧
      (s.commit.state = .idle → ahead f.index s.epoch.count = true →
        exec .commit s =
          .next (({ u with commit := { s.commit with
            state := .checking { stage := if f.arg.getLsbD 0 then .b else .a, now := false, target := f.index } 0 none } } :
              State).respond r .ok []))) ∧
    (f.command = 0x10 → f.arg.getLsbD 1 = true →
      (s.commit.state ≠ .idle → exec .commitNow s = .next (u.respond r .busy [])) ∧
      (s.commit.state = .idle →
        exec .commitNow s =
          .next (({ u with commit := { s.commit with
            state := .checking { stage := if f.arg.getLsbD 0 then .b else .a, now := true, target := 0 } 0 none } } :
              State).respond r .ok []))) ∧
    (f.command = 0x11 →
      (s.commit.state = .idle → exec .cancelCommit s = .next (u.respond r .notActive [])) ∧
      (∀ q, s.commit.state = .armed q ∨ (∃ n e, s.commit.state = .checking q n e) →
        exec .cancelCommit s =
          .next (({ u with commit := { s.commit with
            state := .idle, record := some { request := q, outcome := .cancelled, epoch := s.epoch.count } } } :
              State).respond r .ok [])))

/-! ## The epoch -/

/-- R149, R152, R153, R154, R184: what every boundary does: E takes the pending value, else the value a SYNC cell carried (latching
EPOCH_JUMP when it is not the next, which makes a notice pending when the flag was clear and its mask is clear), else E + 1; the window
timer restarts with P and tol fixed from the parameters; EPOCH_OUT rises for 1 microsecond; and the boundary is delivered to every
block; nothing else changes. -/
def Obligations.BoundaryEffect : Prop :=
  ∀ (s : State) (carried : Option Half) (sync : SyncState) (missRun : Nat) (lost : Bool) (t : State) (e : Half),
    t = s.boundary carried sync missRun lost →
    e = (match s.epoch.pending, carried with
      | some n, _ => n
      | none, some v => v
      | none, none => s.epoch.count + 1) →
    t.epoch =
      { s.epoch with count := e, sync := sync, missRun := missRun, window := 0, pending := none, out := some 1,
                     period := (s.param .epochPeriod + 1) * 8,
                     tol := min (s.param .epochTol) ((s.param .epochPeriod + 1) * 8 / 4) } ∧
    (∀ l, t.port l = { s.port l with boundaries := (s.port l).boundaries + 1 }) ∧
    t.commit = { s.commit with boundaries := s.commit.boundaries ++ [{ epoch := e, lost := lost }] } ∧
    t.flow = { s.flow with boundaries := s.flow.boundaries + 1 } ∧
    t.notice.boundaries = s.notice.boundaries ++ [e] ∧
    (t.elementFlag .epochJump = true ↔ s.elementFlag .epochJump = true ∨
      (s.epoch.pending = none ∧ ∃ v, carried = some v ∧ v ≠ s.epoch.count + 1)) ∧
    (∀ f, f ≠ .epochJump → t.elementFlag f = s.elementFlag f) ∧
    (∀ jump : Bool, (jump = true ↔ s.epoch.pending = none ∧ ∃ v, carried = some v ∧ v ≠ s.epoch.count + 1) →
      t.notice = { s.notice with
        flags := t.notice.flags
        pending := s.notice.pending ||
          (jump && !s.elementFlag .epochJump && !s.notice.elementMasks.getLsbD (ElementFlag.bit .epochJump))
        boundaries := s.notice.boundaries ++ [e] }) ∧
    t.routes = s.routes ∧ t.buffer = s.buffer ∧ t.agent = s.agent ∧ t.boot = s.boot ∧ t.elementCounters = s.elementCounters

/-- R151, R155 to R157: the boundaries of the unit's own timer, which FREE, ACQUIRING and LOST keep, and those at the holdover mark in
LOCKED and HOLDOVER, a miss, which gives HOLDOVER and at the fourth in a row LOST with its indication; and an external epoch:
nothing in FREE; a boundary to LOCKED at once in ACQUIRING and LOST; in LOCKED and HOLDOVER early before P − tol, with no
boundary, and a boundary to LOCKED inside the window. (The reading of the window timer at which the epoch is judged is an operand,
and an early epoch leaves the timer at that reading, log entry 6; a queue may hold the timer's own boundaries at any reading, log
entry 3; that an epoch which follows the fourth miss is taken as LOST takes it, and not as early, is the model's, log entry 24.) -/
def Obligations.BoundaryRules : Prop :=
  (∀ (s : State), s.inReset = false →
     (s.epoch.sync = .free ∨ s.epoch.sync = .acquiring ∨ s.epoch.sync = .lost →
       exec .timerBoundary s = .next (s.boundary none s.epoch.sync s.epoch.missRun false)) ∧
     (s.epoch.sync = .locked ∨ s.epoch.sync = .holdover → ∀ t, t = (s.countElement .epochMissedCount).latch .epochMissed →
       (s.epoch.missRun < 3 → exec .holdoverBoundary s = .next (t.boundary none .holdover (s.epoch.missRun + 1) false)) ∧
       (s.epoch.missRun = 3 → exec .holdoverBoundary s = .next ((t.latch .epochLost).boundary none .lost 4 true)))) ∧
  (∀ (s : State) (carried : Option Half) (elapsed : Nat),
     (s.epoch.sync = .free → s.externalEpoch carried elapsed = s) ∧
     (s.epoch.sync = .acquiring ∨ s.epoch.sync = .lost →
       s.externalEpoch carried elapsed = s.boundary carried .locked 0 false) ∧
     (s.epoch.sync = .locked ∨ s.epoch.sync = .holdover → s.epoch.window ≤ elapsed →
       elapsed ≤ s.epoch.period + s.epoch.tol → ∀ u, u = ({ s with epoch := { s.epoch with window := elapsed } } : State) →
       (elapsed < s.epoch.period - s.epoch.tol →
         s.externalEpoch carried elapsed = (u.countElement .epochEarlyCount).latch .epochEarly) ∧
       (s.epoch.period - s.epoch.tol ≤ elapsed →
         s.externalEpoch carried elapsed = u.boundary carried .locked 0 false)))

/-- R10, R19, R154, R158, R159: the edges of EPOCH_IN, the stuck timer and the fall of EPOCH_OUT; and a SYNC cell with good checks on a
link in UP or DRAINING: counted in SYNC_WRONG_LINK when the link is not SYNC_LINK, an external epoch that carries its EPOCH value
when the source is LINK, and otherwise nothing but its RX_CELLS and its report. (The moment of an external epoch is an operand, log
entry 6; the stuck timer's expiry and the fall of EPOCH_OUT are taken at any time left to them, an expiry with no timer running and
a rising edge with the pin high change nothing, log entry 3; while RESET_N is low the edges move the pin's level, a falling one also
leaving the monitor LOW, log entry 11.) -/
def Obligations.PinEventsAndSyncCells : Prop :=
  (∀ (s : State) (elapsed : Nat), s.inReset = true →
     exec (.epochInRisingEdge elapsed) s = .next { s with epoch := { s.epoch with pinHigh := true } } ∧
     exec .epochInFallingEdge s = .next { s with epoch := { s.epoch with pinHigh := false, monitor := .low } }) ∧
  (∀ (s : State) (elapsed : Nat), s.inReset = false →
     (s.epoch.pinHigh = false → s.param .epochSource = 1 → s.epoch.monitor = .low → ∀ u,
       u = ({ s with epoch := { s.epoch with pinHigh := true } } : State).externalEpoch none elapsed →
       exec (.epochInRisingEdge elapsed) s = .next { u with epoch := { u.epoch with monitor := .high (s.epoch.period / 2) } }) ∧
     (s.epoch.pinHigh = false → s.param .epochSource ≠ 1 ∨ s.epoch.monitor ≠ .low →
       exec (.epochInRisingEdge elapsed) s = .next { s with epoch := { s.epoch with pinHigh := true } }) ∧
     (s.epoch.pinHigh = true → exec (.epochInRisingEdge elapsed) s = .next s) ∧
     exec .epochInFallingEdge s = .next { s with epoch := { s.epoch with pinHigh := false, monitor := .low } } ∧
     (∀ n, s.epoch.monitor = .high n →
       exec .stuckTimerExpiry s = .next (({ s with epoch := { s.epoch with monitor := .stuck } } : State).latch .pinStuck)) ∧
     ((∀ n, s.epoch.monitor ≠ .high n) → exec .stuckTimerExpiry s = .next s) ∧
     exec .epochOutFall s = .next { s with epoch := { s.epoch with out := none } }) ∧
  (∀ (s : State) (l : LinkId) (cell : Cell) (elapsed : Nat) (s' : State), s.inReset = false →
     (s.port l).unit.state = .up ∨ (s.port l).unit.state = .draining →
     cell.headerOk = true → cell.header.type = 5 → cell.payloadOk = true → s' = s.countLink l .rxCells →
     (s.param .syncLink ≠ l.val →
       exec (.syncReceived l cell elapsed) s = .next ((s'.countElement .syncWrongLink).report l .other)) ∧
     (s.param .syncLink = l.val → s.param .epochSource = 2 →
       exec (.syncReceived l cell elapsed) s =
         .next ((s'.externalEpoch (some (cell.byte 0 ++ cell.byte 1)) elapsed).report l .other)) ∧
     (s.param .syncLink = l.val → s.param .epochSource ≠ 2 →
       exec (.syncReceived l cell elapsed) s = .next (s'.report l .other)))

/-! ## Management requests -/

/-- R164, R165: a MGMT cell with good checks on a link in UP or DRAINING is judged by the first case that applies; a discarded one
counts in MGMT_DISCARDS, latches MGMT_DISCARD and writes the last-discard record; an accepted one joins the tail of the queue. -/
def Obligations.RequestAcceptance : Prop :=
  ∀ (s : State) (l : LinkId) (cell : Cell) (s' : State) (discarded : DiscardReason → State), s.inReset = false →
    (s.port l).unit.state = .up ∨ (s.port l).unit.state = .draining →
    cell.headerOk = true → cell.header.type = 4 → cell.payloadOk = true → s' = s.countLink l .rxCells →
    (∀ why, discarded why =
      ((({ s' with agent := { s'.agent with lastDiscard := some (why, l) } } : State).countElement .mgmtDiscards).latch
        .mgmtDiscard).report l .other) →
    ((s.port l).map.mgmtAllowed = false → exec (.mgmtReceived l cell) s = .next (discarded .notAllowed)) ∧
    ((s.port l).map.mgmtAllowed = true → cell.byte 0 ≠ s.agent.identity.setWidth 8 → cell.byte 0 ≠ 255 →
      exec (.mgmtReceived l cell) s = .next (discarded .notTarget)) ∧
    ((s.port l).map.mgmtAllowed = true → (cell.byte 0 = s.agent.identity.setWidth 8 ∨ cell.byte 0 = 255) →
      8 ≤ s.agent.requests.length → exec (.mgmtReceived l cell) s = .next (discarded .queueFull)) ∧
    ((s.port l).map.mgmtAllowed = true → (cell.byte 0 = s.agent.identity.setWidth 8 ∨ cell.byte 0 = 255) →
      s.agent.requests.length < 8 → ∀ body : Vector Byte 62, body.toList = cell.payload.toList.take 62 →
      exec (.mgmtReceived l cell) s =
        .next (({ s' with agent := { s'.agent with
          requests := s.agent.requests ++ [{ link := l, body := body, context := cell.header.context }] } } :
            State).report l .other))

/-- R14, R138, R139, R167: the response: placed at the tail of the control queue of the request's link when that link is in UP or
DRAINING with fewer than 4 cells there, and otherwise dropped and counted in RESPONSE_DROPS; its cell has TYPE 4, the request's
CONTEXT, the fields of R14 and good checks. Emptying a control queue raises RESPONSE_DROPS by the responses in it, up to the
counter's limit, and makes a notice pending when a notice was in it; nothing else changes. -/
def Obligations.ControlQueue : Prop :=
  (∀ (s : State) (r : Request) (status : Status) (data : List Byte) (x : Cell),
     x = s.responseCell r.context r.fields.tag r.fields.command status r.fields.index r.fields.count r.fields.arg data →
     ((s.port r.link).unit.state = .up ∨ (s.port r.link).unit.state = .draining →
       (s.port r.link).sched.control.length < 4 →
       s.respond r status data =
         s.modPort r.link fun p =>
           { p with sched := { p.sched with control := p.sched.control ++ [{ kind := .response, cell := x }] } }) ∧
     (((s.port r.link).unit.state ≠ .up ∧ (s.port r.link).unit.state ≠ .draining) ∨
       4 ≤ (s.port r.link).sched.control.length →
       s.respond r status data = s.countElement .responseDrops) ∧
     x.header.type = 4 ∧ x.header.cls = 0 ∧ x.header.dest = 0 ∧ x.header.context = r.context ∧
     x.headerOk = true ∧ x.payloadOk = true ∧
     x.byte 0 = s.agent.identity.setWidth 8 ∧ x.byte 1 = r.fields.tag ∧ x.byte 2 = r.fields.command ∧
     x.byte 3 = status.code ∧ half (x.byte 4) (x.byte 5) = r.fields.index ∧ x.byte 6 = r.fields.count ∧
     x.byte 7 = r.fields.arg ∧ ∀ i : Nat, i < 54 → x.byte (8 + i) = data.getD i 0) ∧
  (∀ (s : State) (l : LinkId) (t : State), t = s.emptyControl l →
     t.port l = { s.port l with sched := { (s.port l).sched with control := [] } } ∧
     (∀ m, m ≠ l → t.port m = s.port m) ∧
     (t.elementCounters[(1 : Fin 6)]).toNat =
       min 4294967295 ((s.elementCounters[(1 : Fin 6)]).toNat +
         (s.port l).sched.control.countP fun x => x.kind == .response) ∧
     (∀ i : Fin 6, i ≠ 1 → t.elementCounters[i] = s.elementCounters[i]) ∧
     t.notice = { s.notice with
       pending := s.notice.pending || (s.port l).sched.control.any fun x => x.kind == .notice } ∧
     t = { s with ports := t.ports, elementCounters := t.elementCounters, notice := t.notice })

/-- R13, R169 to R172: the fields of a request, by its bytes; the codes of the commands and of the objects, no other code being one; the
entries of its DATA; the shape of a request with an object: COUNT 0 or above the entries per request is BAD_VALUE; then a bad ARG for
COUNTERS, or a range that passes the last entry, is BAD_INDEX; with the sizes, limits and numbers of entries of the object table.
READ returns the entries and changes nothing else; READ_CLEAR of COUNTERS or FLAGS returns the same and clears what it returns;
both refuse an unknown object, READ_CLEAR every other object, and a bad shape. -/
def Obligations.RequestShapesReadsAndClears : Prop :=
  (∀ (r : Request) (b : List Byte), b = r.body.toList →
     r.fields =
       { tag := byteAt b 1, command := byteAt b 2, object := byteAt b 3, index := halfAt b 4, count := byteAt b 6,
         arg := byteAt b 7, data := b.drop 8 }) ∧
  (∀ b : Byte,
     commandOf b = List.lookup b
       [(0x01, .read), (0x02, .write), (0x03, .readClear), (0x10, .commit), (0x11, .cancelCommit), (0x20, .linkEnable),
         (0x21, .linkDisable), (0x22, .linkTest), (0x30, .setEpoch), (0x40, .closeConfig), (0x41, .softReset), (0x7E, .echo)] ∧
     objectOf b = List.lookup b
       [(0x01, .config), (0x02, .portMap), (0x03, .dest .stageA), (0x04, .dest .stageB), (0x05, .dest .active),
         (0x06, .group .stageA), (0x07, .group .stageB), (0x08, .group .active), (0x09, .linkStatus), (0x0A, .counters),
         (0x0B, .flags), (0x0C, .masks), (0x0D, .commitStatus), (0x0E, .epochStatus), (0x0F, .bootStatus), (0x10, .identity)]) ∧
  (∀ (f : Fields) (o : Object) (k : Nat), (f.entry o k).length = o.size ∧
     ∀ i, i < o.size → byteAt (f.entry o k) i = byteAt f.data (k * o.size + i)) ∧
  (∀ (s : State) (rest : List Request), s.dropRequest rest = { s with agent := { s.agent with requests := rest } }) ∧
  ((∀ (f : Fields) (o : Object),
     (f.count = 0 ∨ o.perRequest < f.count.toNat → f.shapeRefusal o = some .badValue) ∧
     (1 ≤ f.count.toNat → f.count.toNat ≤ o.perRequest →
       (o = .counters → 64 ≤ f.arg.toNat → f.arg ≠ 255 → f.shapeRefusal o = some .badIndex) ∧
       ((o = .counters → f.arg.toNat < 64 ∨ f.arg = 255) →
         (o.entries f.arg ≤ f.index.toNat + f.count.toNat - 1 → f.shapeRefusal o = some .badIndex) ∧
         (f.index.toNat + f.count.toNat - 1 < o.entries f.arg → f.shapeRefusal o = none)))) ∧
   (∀ (set : RouteSetId) (arg : Byte),
     [Object.config, .portMap, .dest set, .group set, .linkStatus, .counters, .flags, .masks, .commitStatus, .epochStatus,
       .bootStatus, .identity].map (fun o => (o.size, o.perRequest, o.entries arg)) =
     [(2, 27, 30), (10, 5, 64), (6, 9, 120), (34, 1, 512), (32, 1, 64), (4, 13, if arg = 255 then 6 else 16), (4, 13, 65),
       (4, 1, 1), (18, 1, 1), (8, 1, 1), (12, 1, 1), (8, 1, 1)])) ∧
  (∀ (s u : State) (r : Request) (rest : List Request) (f : Fields), s.inReset = false → s.agent.requests = r :: rest →
     f = r.fields → u = s.dropRequest rest →
     (f.command = 0x01 →
       (objectOf f.object = none → exec .read s = .next (u.respond r .badObject [])) ∧
       ∀ o, objectOf f.object = some o →
         (∀ status, f.shapeRefusal o = some status → exec .read s = .next (u.respond r status [])) ∧
         (f.shapeRefusal o = none →
           exec .read s =
             .next (u.respond r .ok ((List.range f.count.toNat).flatMap fun k => u.readEntry o f.arg (f.index.toNat + k))))) ∧
     (f.command = 0x03 →
       (objectOf f.object = none → exec .readClear s = .next (u.respond r .badObject [])) ∧
       (∀ o, objectOf f.object = some o → o ≠ .counters → o ≠ .flags →
         exec .readClear s = .next (u.respond r .badObject [])) ∧
       (∀ o status, objectOf f.object = some o → o = .counters ∨ o = .flags → f.shapeRefusal o = some status →
         exec .readClear s = .next (u.respond r status [])) ∧
       ∀ o, objectOf f.object = some o → o = .counters ∨ o = .flags → f.shapeRefusal o = none →
         ∃ t : State,
           exec .readClear s =
             .next (t.respond r .ok ((List.range f.count.toNat).flatMap fun k => u.readEntry o f.arg (f.index.toNat + k))) ∧
           (∀ i : Fin 6, t.elementCounters[i] =
             if o = .counters ∧ f.arg = 255 ∧ f.index.toNat ≤ i.val ∧ i.val < f.index.toNat + f.count.toNat then 0
             else s.elementCounters[i]) ∧
           (∀ (l : LinkId) (i : Nat), i < 16 → (t.port l).counterAt i =
             if o = .counters ∧ f.arg.toNat = l.val ∧ f.index.toNat ≤ i ∧ i < f.index.toNat + f.count.toNat then 0
             else (s.port l).counterAt i) ∧
           (∀ l : LinkId, (t.port l).flags =
             if o = .flags ∧ f.index.toNat ≤ l.val + 1 ∧ l.val + 1 < f.index.toNat + f.count.toNat then 0
             else (s.port l).flags) ∧
           t.notice =
             (if o = .flags ∧ f.index.toNat = 0 then { s.notice with flags := 0, resetKind := .none } else s.notice) ∧
           (∀ l, t.port l = { s.port l with
             counters := (t.port l).counters, testErrors := (t.port l).testErrors, flags := (t.port l).flags }) ∧
           t.agent = u.agent ∧ t.routes = s.routes ∧ t.commit = s.commit ∧ t.buffer = s.buffer ∧ t.flow = s.flow ∧
           t.epoch = s.epoch ∧ t.boot = s.boot))

/-- R107, R108, R120, R150, R158, R168, R173, R174: WRITE of CONFIG. A bad shape, a fixed parameter in RUN, an impossible value and a broken
pairing are refused with nothing changed; otherwise each covered parameter takes its value, clamped when it is numeric, the others
keep theirs, and the XOFF flags, the global flag and the epoch unit follow at once, each flag that changes being one change notice and
the setting of the global flag latching GLOBAL_CONGESTION; nothing else changes. The parameters at the indices 0 to 29 and their
ranges, codes and kinds are those of the table of R174. -/
def Obligations.ConfigWrites : Prop :=
  ([Param.alpha 0, .alpha 1, .alpha 2, .alpha 3, .xoffHi 0, .xoffHi 1, .xoffHi 2, .xoffHi 3, .xoffLo 0, .xoffLo 1, .xoffLo 2,
      .xoffLo 3, .weight .one, .weight .two, .weight .three, .fPanic, .fResume, .epochSource, .epochPeriod, .epochTol, .syncLink,
      .qualifyCount, .losIntegration, .blankTime, .flowGap, .flapClear, .squelchMode, .noticeLink, .scrubRate,
      .alarmSource].map (fun k => k.index.val) = List.range 30) ∧
  ((List.range 30).map paramKind =
    [.numeric 0 7, .numeric 0 7, .numeric 0 7, .numeric 0 7, .numeric 1 1024, .numeric 1 1024, .numeric 1 1024, .numeric 1 1024,
      .numeric 1 1024, .numeric 1 1024, .numeric 1 1024, .numeric 1 1024, .numeric 1 15, .numeric 1 15, .numeric 1 15,
      .numeric 0 4095, .numeric 1 4096, .codes 2, .numeric 0 255, .numeric 1 63, .numeric 0 63, .numeric 4 64, .codes 1,
      .numeric 0 15, .numeric 1 255, .numeric 16 65535, .codes 3, .link, .numeric 0 64, .link]) ∧
  (∀ v : Nat,
    (∀ lo hi, (ParamKind.numeric lo hi).judge v = some (max lo (min hi v))) ∧
    (∀ last, (ParamKind.codes last).judge v = if v ≤ last then some v else none) ∧
    ParamKind.link.judge v = if v < 64 ∨ v = 255 then some v else none) ∧
  (∀ (p : Params) (k : Param), paramValue p k = p[k.index].toNat) ∧
  (∀ (s : State) (k : Param), s.param k = s.agent.params[k.index].toNat) ∧
  (∀ (f : Fields) (k : Param), f.covers k = true ↔
    f.index.toNat ≤ k.index.val ∧ k.index.val < f.index.toNat + f.count.toNat) ∧
  ∀ (s u : State) (r : Request) (rest : List Request) (f : Fields), s.inReset = false → s.agent.requests = r :: rest →
    f = r.fields → u = s.dropRequest rest → f.command = 0x02 → f.object = 0x01 →
    (∀ status, f.shapeRefusal .config = some status → exec .writeConfig s = .next (u.respond r status [])) ∧
    (f.shapeRefusal .config = none →
      (s.agent.phase = .run → f.index.toNat < 27 → exec .writeConfig s = .next (u.respond r .phase [])) ∧
      (s.agent.phase = .config ∨ 27 ≤ f.index.toNat →
        ((∃ k, k < f.count.toNat ∧ (paramKind (f.index.toNat + k)).judge (halfAt f.data (2 * k)).toNat = none) →
          exec .writeConfig s = .next (u.respond r .badValue [])) ∧
        ∀ p : Params,
          (∀ (i : Fin 30) (k w : Nat), i.val = f.index.toNat + k → k < f.count.toNat →
            (paramKind i.val).judge (halfAt f.data (2 * k)).toNat = some w → p[i].toNat = w) →
          (∀ i : Fin 30, i.val < f.index.toNat ∨ f.index.toNat + f.count.toNat ≤ i.val → p[i] = s.agent.params[i]) →
          (∀ k, k < f.count.toNat → (paramKind (f.index.toNat + k)).judge (halfAt f.data (2 * k)).toNat ≠ none) →
          (¬ ((∀ c : ClassId, paramValue p (.xoffLo c) < paramValue p (.xoffHi c)) ∧
              paramValue p .fPanic < paramValue p .fResume) →
            exec .writeConfig s = .next (u.respond r .badValue [])) ∧
          ((∀ c : ClassId, paramValue p (.xoffLo c) < paramValue p (.xoffHi c)) →
            paramValue p .fPanic < paramValue p .fResume →
            ∃ t : State, exec .writeConfig s = .next (t.respond r .ok []) ∧
              t.agent = { u.agent with params := p } ∧
              (∀ c : ClassId, f.covers (.xoffHi c) = true ∨ f.covers (.xoffLo c) = true → ∀ l,
                (t.port l).queues.xoff[c] =
                  (if paramValue p (.xoffHi c) ≤ s.queueLength l c then true
                   else if s.queueLength l c ≤ paramValue p (.xoffLo c) then false else (s.port l).queues.xoff[c])) ∧
              (∀ c : ClassId, f.covers (.xoffHi c) = false → f.covers (.xoffLo c) = false → ∀ l,
                (t.port l).queues.xoff[c] = (s.port l).queues.xoff[c]) ∧
              (f.covers .fPanic = true ∨ f.covers .fResume = true →
                t.buffer = { s.buffer with
                  congested := if s.buffer.free < paramValue p .fPanic then true
                    else if paramValue p .fResume ≤ s.buffer.free then false else s.buffer.congested }) ∧
              (f.covers .fPanic = false → f.covers .fResume = false → t.buffer = s.buffer) ∧
              t.notice =
                (if s.buffer.congested = false ∧ t.buffer.congested = true then s.latch .globalCongestion else s).notice ∧
              (∀ (n : Nat) (v : State),
                n = (allLinks.map fun l => allClasses.countP fun c =>
                    decide ((t.port l).queues.xoff[c] ≠ (s.port l).queues.xoff[c])).sum +
                  (if t.buffer.congested = s.buffer.congested then 0 else 1) →
                v = Nat.iterate State.changeNotice n { s with agent := { s.agent with params := p } } →
                t.flow = v.flow ∧
                ∀ l, t.port l = { s.port l with
                  queues := { (s.port l).queues with xoff := (t.port l).queues.xoff }
                  flowDue := (v.port l).flowDue }) ∧
              (f.covers .epochSource = true →
                t.epoch = { s.epoch with
                  sync := if paramValue p .epochSource = 0 then .free else .acquiring
                  missRun := 0
                  monitor := if paramValue p .epochSource = 1 ∧ s.epoch.pinHigh = true then .high (s.epoch.period / 2)
                    else .low }) ∧
              (f.covers .epochSource = false → f.covers .syncLink = true → paramValue p .epochSource = 2 →
                t.epoch = { s.epoch with sync := .acquiring, missRun := 0 }) ∧
              (f.covers .epochSource = false → f.covers .syncLink = false ∨ paramValue p .epochSource ≠ 2 →
                t.epoch = s.epoch) ∧
              t.routes = s.routes ∧ t.commit = s.commit ∧ t.boot = s.boot ∧ t.elementCounters = s.elementCounters)))

/-- R24, R130, R173: WRITE of PORT_MAP: BUSY when a covered link is not in OFF, BAD_VALUE when an entry is impossible, and otherwise every
covered entry is stored, its numeric fields clamped, with the credits of its link at 0. -/
def Obligations.PortMapWrites : Prop :=
  LinkCredit.zero = { granted := Vector.replicate 4 0, sent := Vector.replicate 4 0 } ∧
  ∀ (s u : State) (r : Request) (rest : List Request) (f : Fields), s.inReset = false → s.agent.requests = r :: rest →
    f = r.fields → u = s.dropRequest rest → f.command = 0x02 → f.object = 0x02 →
    (∀ status, f.shapeRefusal .portMap = some status → exec .writePortMap s = .next (u.respond r status [])) ∧
    (f.shapeRefusal .portMap = none →
      (∀ l : LinkId, f.index.toNat ≤ l.val → l.val < f.index.toNat + f.count.toNat → (s.port l).unit.state ≠ .off →
        exec .writePortMap s = .next (u.respond r .busy [])) ∧
      ((∀ l : LinkId, f.index.toNat ≤ l.val → l.val < f.index.toNat + f.count.toNat → (s.port l).unit.state = .off) →
        ((∃ k, k < f.count.toNat ∧ parsePortMap (f.entry .portMap k) = none) →
          exec .writePortMap s = .next (u.respond r .badValue [])) ∧
        ∀ entry : Nat → PortMapEntry, (∀ k, k < f.count.toNat → parsePortMap (f.entry .portMap k) = some (entry k)) →
          ∀ ports : Vector Port 64,
            (∀ l : LinkId, ports[l] =
              if f.index.toNat ≤ l.val ∧ l.val < f.index.toNat + f.count.toNat then
                { s.port l with map := entry (l.val - f.index.toNat), credit := LinkCredit.zero }
              else s.port l) →
            exec .writePortMap s = .next (({ u with ports := ports } : State).respond r .ok []))) ∧
    (∀ b : List Byte,
      (parsePortMap b = none ↔
        (64 ≤ (byteAt b 0).toNat ∧ byteAt b 0 ≠ 255) ∨ (64 ≤ (byteAt b 1).toNat ∧ byteAt b 1 ≠ 255) ∨
          2 ≤ (byteAt b 2).toNat ∨ 2 ≤ (byteAt b 3).toNat ∨ 3 ≤ (byteAt b 4).toNat) ∧
      ∀ e, parsePortMap b = some e →
        e.expectId = byteAt b 0 ∧ e.expectLink = byteAt b 1 ∧ (e.mgmtAllowed = true ↔ byteAt b 2 = 1) ∧
        (e.recovery = .auto ↔ byteAt b 3 = 1) ∧ (e.squelch = .marker ↔ byteAt b 4 = 1) ∧ (e.squelch = .silent ↔ byteAt b 4 = 2) ∧
        e.holdDown.toNat = max 1 (byteAt b 5).toNat ∧ e.flapLimit.toNat = min 15 (byteAt b 6).toNat ∧
        e.errorLimit = byteAt b 7 ∧ e.creditMax.toNat = max 1 (min 128 (byteAt b 8).toNat) ∧
        e.drainLimit.toNat = max 1 (byteAt b 9).toNat)

/-- R49 to R51, R53 to R55, R80, R168, R169: the contents of an invalid entry; the contents of a written route entry, refused for a COUNT, a member or an order that R53
names; and WRITE of a route table: the shape first; then PHASE for ACTIVE in RUN, or BUSY with STAGE_BUSY_WRITE latched for a
stage that a commit in progress has selected; then the contents; and otherwise the entries are stored intact, those of ACTIVE
with their bad marks clear and, for Destination entries, their pointers at 0. -/
def Obligations.RouteEntriesAndWrites : Prop :=
  (destInvalid = { valid := false, count := 0, members := Vector.replicate 4 0 } ∧
     groupInvalid = { valid := false, echo := false, count := 0, members := Vector.replicate 32 0 }) ∧
  (∀ b : List Byte,
     ((byteAt b 0).getLsbD 0 = false → parseDest b = some destInvalid ∧ parseGroup b = some groupInvalid) ∧
     ((byteAt b 0).getLsbD 0 = true →
       ((1 ≤ (byteAt b 1).toNat ∧ (byteAt b 1).toNat ≤ 4 ∧
           (∀ i, i < (byteAt b 1).toNat → (byteAt b (2 + i)).toNat < 64) ∧
           (∀ i j, i < j → j < (byteAt b 1).toNat → byteAt b (2 + i) ≠ byteAt b (2 + j))) →
         ∃ e, parseDest b = some e ∧ e.valid = true ∧ e.count = byteAt b 1 ∧
           ∀ i : Fin 4, e.members[i] = if i.val < (byteAt b 1).toNat then byteAt b (2 + i.val) else 0) ∧
       ((byteAt b 1 = 0 ∨ 4 < (byteAt b 1).toNat ∨
           (∃ i, i < (byteAt b 1).toNat ∧ 64 ≤ (byteAt b (2 + i)).toNat) ∨
           ∃ i j, i < j ∧ j < (byteAt b 1).toNat ∧ byteAt b (2 + i) = byteAt b (2 + j)) → parseDest b = none) ∧
       ((1 ≤ (byteAt b 1).toNat ∧ (byteAt b 1).toNat ≤ 32 ∧
           (∀ i, i < (byteAt b 1).toNat → (byteAt b (2 + i)).toNat < 120) ∧
           (∀ i, i + 1 < (byteAt b 1).toNat → (byteAt b (2 + i)).toNat < (byteAt b (3 + i)).toNat)) →
         ∃ e, parseGroup b = some e ∧ e.valid = true ∧ (e.echo = (byteAt b 0).getLsbD 1) ∧ e.count = byteAt b 1 ∧
           ∀ i : Fin 32, e.members[i] = if i.val < (byteAt b 1).toNat then byteAt b (2 + i.val) else 0) ∧
       ((byteAt b 1 = 0 ∨ 32 < (byteAt b 1).toNat ∨
           (∃ i, i < (byteAt b 1).toNat ∧ 120 ≤ (byteAt b (2 + i)).toNat) ∨
           ∃ i, i + 1 < (byteAt b 1).toNat ∧ (byteAt b (3 + i)).toNat ≤ (byteAt b (2 + i)).toNat) → parseGroup b = none))) ∧
  (∀ (s u : State) (r : Request) (rest : List Request) (f : Fields) (o : Object) (set : RouteSetId) (c : Instr),
     s.inReset = false → s.agent.requests = r :: rest → f = r.fields → u = s.dropRequest rest → f.command = 0x02 →
     objectOf f.object = some o → o = .dest set ∨ o = .group set → c = (if set = .active then .writeActive else .writeStage) →
     (∀ status, f.shapeRefusal o = some status → exec c s = .next (u.respond r status [])) ∧
     (f.shapeRefusal o = none →
       (set = .active → s.agent.phase = .run → exec c s = .next (u.respond r .phase [])) ∧
       (∀ q, (s.commit.state = .armed q ∨ ∃ n e, s.commit.state = .checking q n e) → q.stage.set = set →
         exec c s = .next ((u.latch .stageBusyWrite).respond r .busy [])) ∧
       ((set = .active → s.agent.phase = .config) →
         (∀ q, (s.commit.state = .armed q ∨ ∃ n e, s.commit.state = .checking q n e) → q.stage.set ≠ set) →
         (∀ k, o = .dest set → k < f.count.toNat → parseDest (f.entry o k) = none →
           exec c s = .next (u.respond r .badValue [])) ∧
         (∀ k, o = .group set → k < f.count.toNat → parseGroup (f.entry o k) = none →
           exec c s = .next (u.respond r .badValue [])) ∧
         (∀ entry : Nat → DestContents, o = .dest set →
           (∀ k, k < f.count.toNat → parseDest (f.entry o k) = some (entry k)) →
           ∃ q : RouteStore, exec c s = .next (({ u with routes := q } : State).respond r .ok []) ∧
             (∀ d : Dcn, f.index.toNat ≤ d.val → d.val < f.index.toNat + f.count.toNat →
               (q.get set).dest[d] = { contents := entry (d.val - f.index.toNat), intact := true } ∧
               (set = .active → q.destBad[d] = false ∧ q.pointer[d] = 0)) ∧
             (∀ d : Dcn, d.val < f.index.toNat ∨ f.index.toNat + f.count.toNat ≤ d.val →
               (q.get set).dest[d] = (s.routes.get set).dest[d] ∧ q.destBad[d] = s.routes.destBad[d] ∧
               q.pointer[d] = s.routes.pointer[d]) ∧
             (set ≠ .active → q.destBad = s.routes.destBad ∧ q.pointer = s.routes.pointer) ∧
             (q.get set).group = (s.routes.get set).group ∧ q.groupBad = s.routes.groupBad ∧
             ∀ other, other ≠ set → q.get other = s.routes.get other) ∧
         (∀ (x : GroupContents) (g : GroupId), o = .group set → g.val = f.index.toNat → parseGroup (f.entry o 0) = some x →
           ∃ q : RouteStore, exec c s = .next (({ u with routes := q } : State).respond r .ok []) ∧
             (q.get set).group[g] = { contents := x, intact := true } ∧
             (set = .active → q.groupBad[g] = false) ∧ (set ≠ .active → q.groupBad = s.routes.groupBad) ∧
             (∀ h : GroupId, h ≠ g → (q.get set).group[h] = (s.routes.get set).group[h] ∧
               q.groupBad[h] = s.routes.groupBad[h]) ∧
             (q.get set).dest = (s.routes.get set).dest ∧ q.destBad = s.routes.destBad ∧ q.pointer = s.routes.pointer ∧
             ∀ other, other ≠ set → q.get other = s.routes.get other))))

/-- R25, R37, R38, R45, R139: LINK_ENABLE, LINK_DISABLE in both modes and LINK_TEST, served from the head of the request queue (INDEX
is judged before ARG, log entry 9); and what the NOW mode does in every state: the link is in OFF with its counts and timers
stopped, its record and its conditions kept; from UP or DRAINING its control queue is emptied and a flush is requested (it ends
at once when nothing is queued, R109, R111, log entry 14); from UP the flow unit takes a change notice (R119, R120), and with it the
other links their FLOW-due; nothing else changes. -/
def Obligations.LinkCommands : Prop :=
  (∀ (s u : State) (r : Request) (rest : List Request) (f : Fields), s.inReset = false → s.agent.requests = r :: rest →
     f = r.fields → u = s.dropRequest rest →
     (64 ≤ f.index.toNat →
       (f.command = 0x20 → exec .linkEnable s = .next (u.respond r .badIndex [])) ∧
       (f.command = 0x21 → f.arg ≠ 1 → exec .linkDisableNow s = .next (u.respond r .badIndex [])) ∧
       (f.command = 0x21 → f.arg = 1 → exec .linkDisableDrain s = .next (u.respond r .badIndex [])) ∧
       (f.command = 0x22 → exec .linkTest s = .next (u.respond r .badIndex []))) ∧
     ∀ l : LinkId, f.index.toNat = l.val →
       (f.command = 0x20 →
         ((s.port l).unit.state = .off →
           exec .linkEnable s =
             .next ((u.modPort l fun p =>
               { p with
                 unit := { p.unit with state := .blank, blankTimer := some ((s.param .blankTime + 1) * 64), qualRun := 0,
                                       mismatchRun := 0, qualified := false }
                 credit := LinkCredit.zero }).respond r .ok [])) ∧
         ((s.port l).unit.state ≠ .off → exec .linkEnable s = .next (u.respond r .busy []))) ∧
       (f.command = 0x21 →
         (f.arg ≠ 0 → f.arg ≠ 1 → exec .linkDisableNow s = .next (u.respond r .badValue [])) ∧
         (f.arg = 0 → exec .linkDisableNow s = .next ((u.disableNow l).respond r .ok [])) ∧
         (f.arg = 1 → ∃ t, exec .linkDisableDrain s = .next (t.respond r .ok []) ∧
           ((s.port l).unit.state = .up → ∀ v,
             v = (u.modUnit l fun x => { x with state := .draining, drainCount := 0, flapCount := 0, upRising := false,
                                                flapDue := false }).changeNotice →
             (0 < (s.port l).queues.total → t = v) ∧
             ((s.port l).queues.total = 0 →
               t = (v.modUnit l fun x => { x with state := .off, lossTimer := none }).emptyControl l)) ∧
           ((s.port l).unit.state = .draining → t = u.modUnit l fun x => { x with flapCount := 0 }) ∧
           ((s.port l).unit.state ≠ .up → (s.port l).unit.state ≠ .draining → t = u.disableNow l))) ∧
       (f.command = 0x22 →
         ((s.port l).unit.state = .off → (s.port l).queues.flushing = false →
           exec .linkTest s =
             .next ((u.modPort l fun p =>
               { p with
                 unit := { p.unit with state := .test, generator := BitVec.allOnes 31, checker := .unseeded }
                 testErrors := 0 }).respond r .ok [])) ∧
         ((s.port l).unit.state ≠ .off ∨ (s.port l).queues.flushing = true →
           exec .linkTest s = .next (u.respond r .busy [])))) ∧
  (∀ (s : State) (l : LinkId) (u : LinkUnit) (t : State), u = (s.port l).unit → t = s.disableNow l →
     t.port l =
       { s.port l with
         unit := { u with
           state := .off, flapCount := 0, holdDown := none, blankTimer := none, lossTimer := none, upRising := false,
           flapDue := false, qualified := false, checker := .unseeded }
         sched := if u.state.inService then { (s.port l).sched with control := [] } else (s.port l).sched
         queues :=
           if u.state.inService = false ∨ (s.port l).queues.flushing = true then (s.port l).queues
           else if (s.port l).queues.total = 0 then { (s.port l).queues with xoff := Vector.replicate 4 false }
           else { (s.port l).queues with flushing := true } } ∧
     t.notice = { s.notice with
       pending := s.notice.pending || (u.state.inService && (s.port l).sched.control.any fun x => x.kind == .notice) } ∧
     (u.state.inService = true → t.elementCounters = (s.emptyControl l).elementCounters) ∧
     (u.state.inService = false → t.elementCounters = s.elementCounters) ∧
     (u.state = .up → t.flow = s.changeNotice.flow ∧
       ∀ m, m ≠ l → t.port m = { s.port m with flowDue := (s.changeNotice.port m).flowDue }) ∧
     (u.state ≠ .up → t.flow = s.flow ∧ ∀ m, m ≠ l → t.port m = s.port m) ∧
     t.routes = s.routes ∧ t.commit = s.commit ∧ t.buffer = s.buffer ∧ t.epoch = s.epoch ∧ t.agent = s.agent ∧
     t.boot = s.boot)

/-- R160, R168, R169, R170, R176, R178, R183: SET_EPOCH, CLOSE_CONFIG, ECHO, WRITE of MASKS, WRITE of an object with no write rule, and an
unknown command. -/
def Obligations.OtherCommands : Prop :=
  ∀ (s u : State) (r : Request) (rest : List Request) (f : Fields), s.inReset = false → s.agent.requests = r :: rest →
    f = r.fields → u = s.dropRequest rest →
    (f.command = 0x30 →
      exec .setEpoch s = .next (({ u with epoch := { s.epoch with pending := some f.index } } : State).respond r .ok [])) ∧
    (f.command = 0x40 → s.agent.phase = .config →
      exec .closeConfig s = .next (({ u with agent := { u.agent with phase := .run } } : State).respond r .ok [])) ∧
    (f.command = 0x40 → s.agent.phase = .run → exec .closeConfig s = .next (u.respond r .phase [])) ∧
    (f.command = 0x7E → f.data = r.body.toList.drop 8 ∧ exec .echo s = .next (u.respond r .ok f.data)) ∧
    (f.command = 0x02 → f.object = 0x0C →
      (f.shapeRefusal .masks = none →
        exec .writeMasks s =
          .next (({ u with notice := { s.notice with
            elementMasks := byteAt f.data 0 ++ byteAt f.data 1, linkMasks := (byteAt f.data 2).setWidth 5 } } :
              State).respond r .ok [])) ∧
      ∀ status, f.shapeRefusal .masks = some status → exec .writeMasks s = .next (u.respond r status [])) ∧
    (f.command = 0x02 → objectOf f.object = none → exec .write s = .next (u.respond r .badObject [])) ∧
    (∀ o, f.command = 0x02 → objectOf f.object = some o → o = .linkStatus ∨ o = .counters ∨ o = .flags ∨ o = .commitStatus ∨
        o = .epochStatus ∨ o = .bootStatus ∨ o = .identity →
      exec .write s = .next (u.respond r .readOnly [])) ∧
    (commandOf f.command = none → exec .unknownCommand s = .next (u.respond r .badCommand []))

/-! ## Flags, notices and counters -/

/-- R181, R184, R189: latching a flag, of the element or of a link, sets that flag alone and makes a notice pending when the flag was clear
and its mask is clear; a counter rises by 1 and stays at its limit; nothing else changes. -/
def Obligations.LatchingAndCounting : Prop :=
  (∀ (s : State) (f : ElementFlag),
    (s.latch f).elementFlag f = true ∧ (∀ g, g ≠ f → (s.latch f).elementFlag g = s.elementFlag g) ∧
    s.latch f = { s with notice := { s.notice with
      flags := (s.latch f).notice.flags
      pending := s.notice.pending || (!s.elementFlag f && !s.notice.elementMasks.getLsbD f.bit) } }) ∧
  (∀ (s : State) (l : LinkId) (f : LinkFlag),
    (s.latchLink l f).linkFlag l f = true ∧ (∀ g, g ≠ f → (s.latchLink l f).linkFlag l g = s.linkFlag l g) ∧
    (∀ m, m ≠ l → (s.latchLink l f).port m = s.port m) ∧
    (s.latchLink l f).port l = { s.port l with flags := ((s.latchLink l f).port l).flags } ∧
    (s.latchLink l f).notice =
      { s.notice with pending := s.notice.pending || (!s.linkFlag l f && !s.notice.linkMasks.getLsbD f.bit) } ∧
    s.latchLink l f = { s with ports := (s.latchLink l f).ports, notice := (s.latchLink l f).notice }) ∧
  (∀ (s : State) (l : LinkId) (k : LinkCounter),
    s.countLink l k = { s with ports := (s.countLink l k).ports } ∧
    (s.countLink l k).port l = { s.port l with counters := ((s.countLink l k).port l).counters } ∧
    (((s.countLink l k).port l).counters[k.index]).toNat = min 4294967295 (((s.port l).counters[k.index]).toNat + 1) ∧
    (∀ j : LinkCounter, j ≠ k → ((s.countLink l k).port l).counters[j.index] = (s.port l).counters[j.index]) ∧
    ∀ m, m ≠ l → (s.countLink l k).port m = s.port m) ∧
  ∀ (s : State) (k : ElementCounter),
    s.countElement k = { s with elementCounters := (s.countElement k).elementCounters } ∧
    ((s.countElement k).elementCounters[k.index]).toNat = min 4294967295 ((s.elementCounters[k.index]).toNat + 1) ∧
    ∀ j : ElementCounter, j ≠ k → (s.countElement k).elementCounters[j.index] = s.elementCounters[j.index]

/-- R15, R138, R185, R188: a boundary delivered to the notice unit: with notice-pending set and NOTICE_LINK naming a link in UP or
DRAINING whose control queue holds fewer than 4 cells, a notice with the boundary's E is placed and the flag clears; otherwise
nothing but the handling of the boundary. ALARM_N is low while RESET_N is low; under a link source it is high exactly while that
link is in UP; under SUMMARY it is low exactly while an unmasked flag stands latched. -/
def Obligations.NoticesAndAlarm : Prop :=
  (∀ (s : State) (e : Half) (rest : List Half) (u : State), s.inReset = false → s.notice.boundaries = e :: rest →
     u = ({ s with notice := { s.notice with boundaries := rest } } : State) →
     (s.notice.pending = false ∨ s.param .noticeLink = 255 → s.param .noticeLink < 64 ∨ s.param .noticeLink = 255 →
       exec .noticeBoundary s = .next u) ∧
     (∀ l : LinkId, s.param .noticeLink = l.val →
       (s.notice.pending = true → (s.port l).unit.state = .up ∨ (s.port l).unit.state = .draining →
         (s.port l).sched.control.length < 4 →
         exec .noticeBoundary s =
           .next (({ u with notice := { u.notice with pending := false } } : State).modPort l fun p =>
             { p with sched := { p.sched with control := p.sched.control ++ [{ kind := .notice, cell := u.noticeCell e }] } })) ∧
       (((s.port l).unit.state ≠ .up ∧ (s.port l).unit.state ≠ .draining) ∨ 4 ≤ (s.port l).sched.control.length →
         exec .noticeBoundary s = .next u)) ∧
     ∀ x : Cell, x = s.noticeCell e →
       x.header.type = 4 ∧ x.header.cls = 0 ∧ x.header.dest = 0 ∧ x.header.context = 0 ∧
       x.headerOk = true ∧ x.payloadOk = true ∧ (∀ i, 19 ≤ i → i < 62 → x.byte i = 0) ∧
       x.byte 0 = s.agent.identity.setWidth 8 ∧ x.byte 1 = 0 ∧ x.byte 2 = 0x80 ∧ x.byte 3 = 0 ∧
       half (x.byte 4) (x.byte 5) = e ∧ x.byte 6 = 0 ∧ x.byte 7 = 0 ∧ half (x.byte 8) (x.byte 9) = s.notice.flags ∧
       x.byte 10 = s.notice.resetKind.code ∧
       ∀ l : LinkId, (x.byte (18 - l.val / 8)).getLsbD (l.val % 8) = decide ((s.port l).flags ≠ 0)) ∧
  (∀ s : State,
     (s.inReset = true → s.alarmN = false) ∧
     (s.inReset = false → ∀ l : LinkId, s.param .alarmSource = l.val → (s.alarmN = true ↔ (s.port l).unit.state = .up)) ∧
     (s.inReset = false → s.param .alarmSource = 255 →
       (s.alarmN = false ↔
         (∃ f : ElementFlag, s.elementFlag f = true ∧ s.notice.elementMasks.getLsbD f.bit = false) ∨
         ∃ (l : LinkId) (f : LinkFlag), s.linkFlag l f = true ∧ s.notice.linkMasks.getLsbD f.bit = false)))

/-! ## The objects as they are read -/

/-- R14, R15, R21, R24, R41, R50, R51, R56, R84, R161, R173, R175 to R177, R198: the codes of link states, fault causes, reset kinds and
statuses, the bits of the flags and the indices of the counters; and the entries of every object as they are read, byte by byte: CONFIG,
PORT_MAP, the route tables of the three sets (contents as stored, a disturbed entry's too, log entry 15; the bad mark and the
pointer of ACTIVE alone, 0 for a stage), LINK_STATUS, COUNTERS, FLAGS, MASKS, COMMIT_STATUS, EPOCH_STATUS, BOOT_STATUS and
IDENTITY. -/
def Obligations.ObjectEntries : Prop :=
  ([LinkState.off, .blank, .seek, .qualify, .up, .draining, .fault, .test].map LinkState.code = [0, 1, 2, 3, 4, 5, 6, 7] ∧
   [FaultCause.los, .alignLost, .errorRate, .remote, .miswire].map FaultCause.code = [1, 2, 3, 4, 5] ∧
   [ResetKind.none, .element, .soft].map ResetKind.code = [0, 1, 2] ∧
   [Status.ok, .badCommand, .badObject, .badIndex, .badValue, .phase, .busy, .late, .notActive, .readOnly].map Status.code =
     [0, 1, 2, 3, 4, 5, 6, 7, 8, 9]) ∧
  ([ElementFlag.resetSeen, .bootFail, .bootRecordError, .epochEarly, .epochMissed, .epochLost, .epochJump, .pinStuck, .routeCheck,
      .commitDone, .commitFailed, .stageBusyWrite, .bufferExhausted, .poolExhausted, .globalCongestion, .mgmtDiscard].map
        ElementFlag.bit = List.range 16 ∧
   [LinkFlag.linkUp, .fault, .flapLimit, .creditError, .drainTimeout].map LinkFlag.bit = List.range 5 ∧
   [LinkCounter.rxCells, .txCells, .headerErrors, .payloadErrors, .badType, .notUp, .unknownDest, .unreachable,
      .routeCheckDiscards, .queueLimit, .bufferFull, .mcastCopyLoss, .mcastCopyDrop, .flushed, .creditRejects].map
        (fun k => k.index.val) = List.range 15 ∧
   [ElementCounter.mgmtDiscards, .responseDrops, .epochEarlyCount, .epochMissedCount, .routeCheckFound, .syncWrongLink].map
        (fun k => k.index.val) = List.range 6) ∧
  (∀ (s : State) (l : LinkId), (∀ f : ElementFlag, s.elementFlag f = s.notice.flags.getLsbD f.bit) ∧
    ∀ f : LinkFlag, s.linkFlag l f = (s.port l).flags.getLsbD f.bit) ∧
  (∀ p : Port, (∀ i : Fin 15, p.counterAt i.val = p.counters[i]) ∧ p.counterAt 15 = p.testErrors.setWidth 32) ∧
  ∀ (s : State) (arg : Byte),
    (∀ (i : Fin 30) (b : List Byte), b = s.readEntry .config arg i.val → b.length = 2 ∧ halfAt b 0 = s.agent.params[i]) ∧
    (∀ (l : LinkId) (e : PortMapEntry) (b : List Byte), e = (s.port l).map → b = s.readEntry .portMap arg l.val →
      b.length = 10 ∧ byteAt b 0 = e.expectId ∧ byteAt b 1 = e.expectLink ∧ byteAt b 2 = (if e.mgmtAllowed then 1 else 0) ∧
      byteAt b 3 = (match e.recovery with | .manual => 0 | .auto => 1) ∧
      byteAt b 4 = (match e.squelch with | .idle => 0 | .marker => 1 | .silent => 2) ∧
      byteAt b 5 = e.holdDown ∧ byteAt b 6 = e.flapLimit ∧ byteAt b 7 = e.errorLimit ∧ byteAt b 8 = e.creditMax ∧
      byteAt b 9 = e.drainLimit) ∧
    (∀ (set : RouteSetId) (r : RouteSet),
      r = (match set with | .stageA => s.routes.stageA | .stageB => s.routes.stageB | .active => s.routes.active) →
      (∀ (d : Dcn) (e : DestContents) (b : List Byte), e = r.dest[d].contents → b = s.readEntry (.dest set) arg d.val →
        b.length = 6 ∧ (byteAt b 0).getLsbD 0 = e.valid ∧
        (byteAt b 0).getLsbD 1 = decide (set = .active ∧ s.routes.destBad[d] = true) ∧
        (byteAt b 0).getLsbD 2 = false ∧ (byteAt b 0).getLsbD 3 = false ∧
        (byteAt b 0).toNat / 16 = (if set = .active then s.routes.pointer[d].val else 0) ∧
        byteAt b 1 = e.count ∧ ∀ i : Fin 4, byteAt b (2 + i.val) = e.members[i]) ∧
      ∀ (g : GroupId) (e : GroupContents) (b : List Byte), e = r.group[g].contents → b = s.readEntry (.group set) arg g.val →
        b.length = 34 ∧ (byteAt b 0).getLsbD 0 = e.valid ∧ (byteAt b 0).getLsbD 1 = e.echo ∧
        (byteAt b 0).getLsbD 2 = decide (set = .active ∧ s.routes.groupBad[g] = true) ∧
        (byteAt b 0).toNat / 8 = 0 ∧ byteAt b 1 = e.count ∧ ∀ i : Fin 32, byteAt b (2 + i.val) = e.members[i]) ∧
    (∀ (l : LinkId) (p : Port) (b : List Byte), p = s.port l → b = s.readEntry .linkStatus arg l.val →
      b.length = 32 ∧ (byteAt b 0).toNat = l.val ∧ byteAt b 1 = p.unit.state.code ∧
      (byteAt b 2).getLsbD 0 = p.queues.flushing ∧ (byteAt b 2).getLsbD 1 = p.unit.signal ∧
      (byteAt b 2).getLsbD 2 = p.unit.aligned ∧ (byteAt b 2).getLsbD 3 = p.unit.qualified ∧
      (∀ r, p.unit.lastFault = some r → byteAt b 3 = r.cause.code ∧ halfAt b 4 = r.epoch) ∧
      (p.unit.lastFault = none → byteAt b 3 = 0 ∧ halfAt b 4 = 0) ∧
      (p.unit.flapCount ≤ 255 → (byteAt b 6).toNat = p.unit.flapCount) ∧ byteAt b 7 = 0 ∧
      (∀ c : ClassId, (byteAt b 2).getLsbD (4 + c.val) = p.queues.xoff[c] ∧
        (p.queues.lists[c].length ≤ 1024 → (halfAt b (8 + 2 * c.val)).toNat = p.queues.lists[c].length) ∧
        byteAt b (16 + c.val) = p.credit.granted[c] - p.credit.sent[c] ∧
        byteAt b (20 + c.val) = p.credit.granted[c] ∧ byteAt b (24 + c.val) = p.credit.sent[c] ∧ byteAt b (28 + c.val) = 0)) ∧
    (∀ l : LinkId, arg.toNat = l.val →
      (∀ i : Fin 15, s.readEntry .counters arg i.val = bytes32 (s.port l).counters[i]) ∧
      s.readEntry .counters arg 15 = [0, 0, hiByte (s.port l).testErrors, loByte (s.port l).testErrors]) ∧
    (arg = 255 → ∀ i : Fin 6, s.readEntry .counters arg i.val = bytes32 s.elementCounters[i]) ∧
    s.readEntry .flags arg 0 = [hiByte s.notice.flags, loByte s.notice.flags, s.notice.resetKind.code, 0] ∧
    (∀ l : LinkId, s.readEntry .flags arg (l.val + 1) = [(s.port l).flags.setWidth 8, 0, 0, 0]) ∧
    s.readEntry .masks arg 0 =
      [hiByte s.notice.elementMasks, loByte s.notice.elementMasks, s.notice.linkMasks.setWidth 8, 0] ∧
    (∀ b, b = s.readEntry .commitStatus arg 0 →
      b.length = 18 ∧
      (s.commit.state = .idle → b.take 6 = [0, 0, 0, 0, 0, 0]) ∧
      (∀ q n f, s.commit.state = .checking q n f ∨ (s.commit.state = .armed q ∧ n = 632) →
        (byteAt b 0 = if s.commit.state = .armed q then 2 else 1) ∧
        (byteAt b 1).toNat = (match q.stage with | .a => 0 | .b => 1) + (if q.now then 2 else 0) ∧
        halfAt b 2 = q.target ∧ (n ≤ 632 → (halfAt b 4).toNat = n)) ∧
      (s.commit.record = none → (b.drop 6).take 10 = List.replicate 10 0) ∧
      (∀ r, s.commit.record = some r →
        byteAt b 6 = 1 ∧ (byteAt b 7).toNat = (match r.request.stage with | .a => 0 | .b => 1) + (if r.request.now then 2 else 0) ∧
        halfAt b 8 = r.request.target ∧
        byteAt b 10 = (match r.outcome with | .done => 1 | .checkFailed _ => 2 | .late => 3 | .abandoned => 4 | .cancelled => 5) ∧
        (∀ d : Dcn, r.outcome = .checkFailed (.dest d) → byteAt b 11 = 1 ∧ (halfAt b 12).toNat = d.val) ∧
        (∀ g : GroupId, r.outcome = .checkFailed (.group g) → byteAt b 11 = 2 ∧ (halfAt b 12).toNat = g.val) ∧
        ((∀ e, r.outcome ≠ .checkFailed e) → byteAt b 11 = 0 ∧ halfAt b 12 = 0) ∧
        halfAt b 14 = r.epoch) ∧
      (halfAt b 16).toNat = s.commit.scrub.val) ∧
    (∀ b, b = s.readEntry .epochStatus arg 0 →
      b.length = 8 ∧ halfAt b 0 = s.epoch.count ∧
      byteAt b 2 = (match s.epoch.sync with | .free => 0 | .acquiring => 1 | .locked => 2 | .holdover => 3 | .lost => 4) ∧
      (s.epoch.missRun ≤ 4 → (byteAt b 3).toNat = s.epoch.missRun) ∧
      ((byteAt b 4).toNat = (if s.epoch.pending = none then 0 else 1) + (if s.epoch.monitor = .stuck then 2 else 0)) ∧
      (∀ n, s.epoch.pending = some n → halfAt b 5 = n) ∧ (s.epoch.pending = none → halfAt b 5 = 0) ∧
      (s.param .epochSource ≤ 2 → (byteAt b 7).toNat = s.param .epochSource)) ∧
    (∀ b, b = s.readEntry .bootStatus arg 0 →
      b.length = 12 ∧
      byteAt b 0 = (match s.boot.state with | .checking => 1 | .applying => 2 | .done => 3 | .doneDefault => 4) ∧
      byteAt b 1 =
        (match s.boot.cause with | .none => 0 | .badHeader => 1 | .badCheck => 2 | .noAck => 3 | .arbitration => 4) ∧
      (byteAt b 2).toNat = (if s.boot.bootSel then 1 else 0) + (if s.boot.failInApply then 2 else 0) +
        (if s.boot.firstBad = none then 0 else 4) ∧
      (s.boot.arbRun ≤ 8 → (byteAt b 3).toNat = s.boot.arbRun) ∧
      (s.boot.taken < 65536 → (halfAt b 4).toNat = s.boot.taken) ∧
      (s.boot.refused < 65536 → (halfAt b 6).toNat = s.boot.refused) ∧
      (∀ i status, s.boot.firstBad = some (i, status) →
        (i < 65536 → (halfAt b 8).toNat = i) ∧ byteAt b 10 = status.code) ∧
      (s.boot.firstBad = none → halfAt b 8 = 0 ∧ byteAt b 10 = 0) ∧ byteAt b 11 = 0) ∧
    ∀ b, b = s.readEntry .identity arg 0 →
      b.length = 8 ∧ halfAt b 0 = 0x6400 ∧ byteAt b 2 = 1 ∧ byteAt b 3 = s.agent.identity.setWidth 8 ∧
      byteAt b 4 = (match s.agent.phase with | .config => 0 | .run => 1) ∧
      (s.agent.lastDiscard = none → byteAt b 5 = 0 ∧ byteAt b 6 = 0) ∧
      (∀ why l, s.agent.lastDiscard = some (why, l) →
        byteAt b 5 = (match why with | .notAllowed => 1 | .notTarget => 2 | .queueFull => 3) ∧ (byteAt b 6).toNat = l.val) ∧
      (s.agent.requests.length ≤ 8 → (byteAt b 7).toNat = s.agent.requests.length)

/-! ## The boot loader -/

/-- R193, R194, R196: the end of a transfer of the boot bus: no acknowledgement fails the boot; a lost arbitration raises the run, waits
for the bus, and fails the boot at 8, and TRANSFER_REPEAT begins the transfer again; in pass one the bytes join the image, which is
judged by the table of R194; the fields of a record, by its bytes; and the walk of the image's records, each of the length that R193
gives its COMMAND and OBJECT. (That bytes of
a transfer past LENGTH are not used, and that the next transfer has begun in the event that ends one, is the model's, log entry
10.) -/
def Obligations.BootTransfersAndPassOne : Prop :=
  (∀ s : State, s.inReset = false →
    (s.boot.bus = .transferring →
      exec (.busTransferEnd .noAck) s = .next (s.bootFailure .noAck) ∧
      (s.boot.arbRun < 7 →
        exec (.busTransferEnd .arbitrationLost) s =
          .next { s with boot := { s.boot with arbRun := s.boot.arbRun + 1, bus := .waiting } }) ∧
      (s.boot.arbRun = 7 →
        exec (.busTransferEnd .arbitrationLost) s =
          .next (({ s with boot := { s.boot with arbRun := 8, bus := .waiting } } : State).bootFailure .arbitration))) ∧
    (s.boot.bus = .waiting →
      exec .transferRepeat s = .next { s with boot := { s.boot with bus := .transferring } })) ∧
  (∀ (s t : State) (bytes image : List Byte) (length : Nat), s.inReset = false → s.boot.bus = .transferring →
    s.boot.state = .checking → 1 ≤ bytes.length → bytes.length ≤ 32 → image = s.boot.image ++ bytes →
    length = (halfAt image 2).toNat → t = { s with boot := { s.boot with image := image, arbRun := 0 } } →
    (image.length < 6 → exec (.busTransferEnd (.success bytes)) s = .next t) ∧
    (6 ≤ image.length → (byteAt image 0 ≠ 1 ∨ length < 16 ∨ 16384 < length ∨ halfAt image 4 = 0) →
      exec (.busTransferEnd (.success bytes)) s = .next (t.bootFailure .badHeader)) ∧
    (6 ≤ image.length → byteAt image 0 = 1 → 16 ≤ length → length ≤ 16384 → halfAt image 4 ≠ 0 →
      (image.length < length → exec (.busTransferEnd (.success bytes)) s = .next t) ∧
      (length ≤ image.length →
        ∀ (x : List Byte) (wellFormed : Bool), x = image.take length →
          wellFormed = walkRecords x (length - 4) (halfAt image 4).toNat 6 →
          (wellFormed = false → exec (.busTransferEnd (.success bytes)) s = .next (t.bootFailure .badHeader)) ∧
          (wellFormed = true → bytes32 (crc32 (x.take (length - 4))) ≠ x.drop (length - 4) →
            exec (.busTransferEnd (.success bytes)) s = .next (t.bootFailure .badCheck)) ∧
          (wellFormed = true → bytes32 (crc32 (x.take (length - 4))) = x.drop (length - 4) →
            exec (.busTransferEnd (.success bytes)) s =
              .next { t with boot := { t.boot with
                state := .applying, length := length, recordCount := (halfAt image 4).toNat, image := [], offset := 6,
                recordIndex := 0 } })))) ∧
  (∀ (x : List Byte) (i : Nat), recordHeader x i =
    { tag := 0, command := byteAt x i, object := byteAt x (i + 1), index := halfAt x (i + 2), count := byteAt x (i + 4),
      arg := byteAt x (i + 5), data := x.drop (i + 6) }) ∧
  (∀ f : Fields,
    (∀ o, f.command = 0x02 → objectOf f.object = some o → f.recordLength = some (6 + f.count.toNat * o.size)) ∧
    (f.command = 0x20 ∨ f.command = 0x21 ∨ f.command = 0x40 → f.recordLength = some 6) ∧
    (f.command = 0x02 → objectOf f.object = none → f.recordLength = none) ∧
    (f.command ≠ 0x02 → f.command ≠ 0x20 → f.command ≠ 0x21 → f.command ≠ 0x40 → f.recordLength = none)) ∧
  (∀ (x : List Byte) (stop n i : Nat),
    (walkRecords x stop 0 i = true ↔ i = stop) ∧
    (walkRecords x stop (n + 1) i = true ↔
      i + 6 ≤ stop ∧ ∃ len, (recordHeader x i).recordLength = some len ∧ i + len ≤ stop ∧
        walkRecords x stop n (i + len) = true))

/-- R169, R195: pass two: the bytes join the image and every record they complete is applied, in image order, until one disagrees with the
walk of pass one or the last has been applied; a record is judged as a request is (a WRITE with the state and the status that serving
the same request gives), but that the link records act on the enable mark; it counts as taken, or as refused with BOOT_RECORD_ERROR and, if it is the first, kept; and at DONE each marked link enters
BLANK. (That a record whose 6-byte header shows the disagreement fails at that byte is the model's, log entry 10.) -/
def Obligations.BootRecords : Prop :=
  (∀ (s : State) (bytes : List Byte), s.inReset = false → s.boot.bus = .transferring → s.boot.state = .applying →
    1 ≤ bytes.length → bytes.length ≤ 32 →
    exec (.busTransferEnd (.success bytes)) s =
      .next (State.applyRecords (s.boot.recordCount - s.boot.recordIndex + 1)
        { s with boot := { s.boot with image := s.boot.image ++ bytes, arbRun := 0 } })) ∧
  (∀ (s : State) (n : Nat) (b : BootLoader) (f : Fields), b = s.boot → f = recordHeader b.image b.offset →
    (b.recordCount ≤ b.recordIndex → State.applyRecords (n + 1) s = s.bootDone) ∧
    (b.recordIndex < b.recordCount → b.length - 4 < b.offset + 6 →
      State.applyRecords (n + 1) s = s.bootFailure .badHeader) ∧
    (b.recordIndex < b.recordCount → b.offset + 6 ≤ b.length - 4 →
      (b.image.length < b.offset + 6 → State.applyRecords (n + 1) s = s) ∧
      (b.offset + 6 ≤ b.image.length →
        (f.recordLength = none → State.applyRecords (n + 1) s = s.bootFailure .badHeader) ∧
        ∀ len, f.recordLength = some len →
          (b.length - 4 < b.offset + len → State.applyRecords (n + 1) s = s.bootFailure .badHeader) ∧
          (b.offset + len ≤ b.length - 4 → b.image.length < b.offset + len → State.applyRecords (n + 1) s = s) ∧
          (b.offset + len ≤ b.length - 4 → b.offset + len ≤ b.image.length →
            State.applyRecords (n + 1) s =
              State.applyRecords n (s.applyRecord { f with data := f.data.take (len - 6) } len))))) ∧
  (∀ (s : State) (f : Fields) (len : Nat) (v : Served) (t : State), v = judgeRecord f s → t = s.applyRecord f len →
    (v.status = .ok →
      t = { v.state with boot := { v.state.boot with
        offset := v.state.boot.offset + len, taken := v.state.boot.taken + 1, recordIndex := v.state.boot.recordIndex + 1 } }) ∧
    (v.status ≠ .ok →
      t = { v.state.latch .bootRecordError with boot := { v.state.boot with
        offset := v.state.boot.offset + len, refused := v.state.boot.refused + 1,
        recordIndex := v.state.boot.recordIndex + 1,
        firstBad := if v.state.boot.firstBad = none then some (v.state.boot.recordIndex, v.status)
          else v.state.boot.firstBad } })) ∧
  (∀ (s u : State) (r : Request) (rest : List Request) (v : Served) (o : Object) (c : Instr), s.inReset = false →
    s.agent.requests = r :: rest → u = s.dropRequest rest → r.fields.command = 0x02 → objectOf r.fields.object = some o →
    v = judgeRecord r.fields u →
    c = (match o with
      | .config => .writeConfig
      | .portMap => .writePortMap
      | .masks => .writeMasks
      | .dest set | .group set => if set = .active then .writeActive else .writeStage
      | .linkStatus | .counters | .flags | .commitStatus | .epochStatus | .bootStatus | .identity => .write) →
    exec c s = .next (v.state.respond r v.status v.data)) ∧
  (∀ (s : State) (status : Status), refuse s status = { state := s, status := status, data := [] } ∧
    taken s = { state := s, status := .ok, data := [] }) ∧
  (∀ (s : State) (f : Fields),
    (f.command = 0x02 →
      (objectOf f.object = some .config → judgeRecord f s = judgeWriteConfig f s) ∧
      (objectOf f.object = some .portMap → judgeRecord f s = judgeWritePortMap f s) ∧
      (objectOf f.object = some .masks → judgeRecord f s = judgeWriteMasks f s) ∧
      (∀ set, objectOf f.object = some (.dest set) ∨ objectOf f.object = some (.group set) →
        judgeRecord f s = if set = .active then judgeWriteActive f s else judgeWriteStage f s) ∧
      (∀ o, objectOf f.object = some o → o = .linkStatus ∨ o = .counters ∨ o = .flags ∨ o = .commitStatus ∨ o = .epochStatus ∨
          o = .bootStatus ∨ o = .identity → judgeRecord f s = refuse s .readOnly)) ∧
    (f.command = 0x40 →
      (s.agent.phase = .config → judgeRecord f s = taken { s with agent := { s.agent with phase := .run } }) ∧
      (s.agent.phase = .run → judgeRecord f s = refuse s .phase)) ∧
    (f.command = 0x20 ∨ f.command = 0x21 → 64 ≤ f.index.toNat → judgeRecord f s = refuse s .badIndex) ∧
    ∀ l : LinkId, f.index.toNat = l.val →
      (f.command = 0x20 →
        ((s.port l).enableMark = false → judgeRecord f s = taken (s.modPort l fun p => { p with enableMark := true })) ∧
        ((s.port l).enableMark = true → judgeRecord f s = refuse s .busy)) ∧
      (f.command = 0x21 →
        (f.arg = 0 ∨ f.arg = 1 → judgeRecord f s = taken (s.modPort l fun p => { p with enableMark := false })) ∧
        (f.arg ≠ 0 → f.arg ≠ 1 → judgeRecord f s = refuse s .badValue))) ∧
  ∀ (s t : State), t = s.bootDone →
    t = { s with ports := t.ports, boot := { s.boot with state := .done, image := [], bus := .idle } } ∧
    ∀ l, ((s.port l).enableMark = false → t.port l = s.port l) ∧
      ((s.port l).enableMark = true → t.port l =
        { s.port l with
          unit := { (s.port l).unit with state := .blank, blankTimer := some ((s.param .blankTime + 1) * 64), qualRun := 0,
                                         mismatchRun := 0, qualified := false }
          credit := LinkCredit.zero, enableMark := false })

/-- R192, R197: a boot failure: BOOT_FAIL latched with the cause, the mark of pass two and every change of pass two withdrawn, and the
default configuration applied, with every link in BLANK. The counts of records, E and its timer keep, and so does everything else.
(Pass one has changed nothing, so that there the same withdrawal writes what stands; BOOT_FAIL is latched under the masks that stood;
and the XOFF flags and the global congestion flag are evaluated against the default thresholds as R107 and R108 give, with the change
notices of those that change: the model's, log entry 17.) -/
def Obligations.BootFailures : Prop :=
  (Params.reset =
     #v[5, 4, 3, 2, 192, 192, 192, 192, 96, 96, 96, 96, 8, 4, 2, 256, 512, 0, 15, 4, 0, 16, 1, 3, 8, 1024, 3, 255, 16, 255] ∧
   PortMapEntry.reset =
     { expectId := 255, expectLink := 255, mgmtAllowed := true, recovery := .auto, squelch := .idle, holdDown := 8,
       flapLimit := 4, errorLimit := 16, creditMax := 64, drainLimit := 32 }) ∧
  ∀ (s : State) (cause : BootCause) (t : State), t = s.bootFailure cause →
    t.boot = { s.boot with cause := cause, failInApply := decide (s.boot.state = .applying), state := .doneDefault, image := [],
                           bus := .idle } ∧
    t.elementFlag .bootFail = true ∧
    (∀ f, f ≠ .bootFail → f ≠ .globalCongestion → t.elementFlag f = s.elementFlag f) ∧
    t.notice.elementMasks = 0 ∧ t.notice.linkMasks = 0 ∧
    (∀ u v : State, u = s.latch .bootFail → v = { u with notice := { u.notice with elementMasks := 0, linkMasks := 0 } } →
      t.notice = (if s.buffer.congested = false ∧ t.buffer.congested = true then v.latch .globalCongestion else v).notice) ∧
    t.buffer = { s.buffer with
      congested := if s.buffer.free < 256 then true else if 512 ≤ s.buffer.free then false else s.buffer.congested } ∧
    (∀ (l : LinkId) (c : ClassId), (t.port l).queues.xoff[c] =
      (if 192 ≤ (s.port l).queues.lists[c].length then true
       else if (s.port l).queues.lists[c].length ≤ 96 then false else (s.port l).queues.xoff[c])) ∧
    t.agent = { s.agent with phase := .config, params := Params.reset } ∧
    (∀ d : Dcn, t.routes.stageA.dest[d] = { contents := destInvalid, intact := true } ∧
      t.routes.stageB.dest[d] = { contents := destInvalid, intact := true } ∧
      t.routes.active.dest[d] = { contents := destInvalid, intact := true } ∧
      t.routes.destBad[d] = false ∧ t.routes.pointer[d] = 0) ∧
    (∀ g : GroupId, t.routes.stageA.group[g] = { contents := groupInvalid, intact := true } ∧
      t.routes.stageB.group[g] = { contents := groupInvalid, intact := true } ∧
      t.routes.active.group[g] = { contents := groupInvalid, intact := true } ∧ t.routes.groupBad[g] = false) ∧
    t.epoch = { s.epoch with sync := .free, missRun := 0, monitor := .low } ∧
    (∀ (n : Nat) (v : State),
      n = (allLinks.map fun l => allClasses.countP fun c =>
          decide ((t.port l).queues.xoff[c] ≠ (s.port l).queues.xoff[c])).sum +
        (if t.buffer.congested = s.buffer.congested then 0 else 1) →
      v = Nat.iterate State.changeNotice n { s with agent := { s.agent with params := Params.reset } } →
      t.flow = v.flow ∧
      ∀ l, t.port l = { s.port l with
        map := PortMapEntry.reset, enableMark := false, credit := LinkCredit.zero
        unit := { (s.port l).unit with
          state := .blank, blankTimer := some 256, qualRun := 0, mismatchRun := 0, qualified := false }
        queues := { (s.port l).queues with xoff := (t.port l).queues.xoff }
        flowDue := (v.port l).flowDue }) ∧
    t.commit = s.commit ∧ t.elementCounters = s.elementCounters ∧ t.inReset = s.inReset

/-! ## Invariants that every step keeps -/

/-- R90 to R93: every step keeps slots, references and descriptors conserved, and every output queue at 1024 descriptors or fewer. -/
def Obligations.StepsKeepTheBufferConserved : Prop :=
  (∀ s t : State, s.BufferConserved → step s = .next t → t.BufferConserved) ∧
  ∀ s t : State, s.QueuesBounded → step s = .next t → t.QueuesBounded

/-- R126: every step keeps the available credit of every class at CREDIT_MAX or less. -/
def Obligations.StepsKeepCreditsBounded : Prop :=
  ∀ s t : State, s.CreditBounded → step s = .next t → t.CreditBounded

/-- R29, R109, R138 to R140, R164, R195: every step keeps the control queues, the flushes, the qualified notes, the request queue and the
boot loader in agreement with the states of the links. -/
def Obligations.StepsKeepTheServiceSound : Prop :=
  ∀ s t : State, s.ServiceSound → step s = .next t → t.ServiceSound

/-- R24, R106, R142, R174: every step keeps the parameters and the Port Map in their ranges and pairings, the XOFF flags in agreement with
the queue lengths, and the grant counters at 1 to 15. -/
def Obligations.StepsKeepTheConfigurationSound : Prop :=
  ∀ s t : State, s.ConfigSound → step s = .next t → t.ConfigSound

/-- R49, R53, R57: every step keeps the intact entries of the three sets possible, and the spray pointers of ACTIVE below their member
counts. -/
def Obligations.StepsKeepTheRoutesSound : Prop :=
  ∀ s t : State, s.RoutesSound → step s = .next t → t.RoutesSound

/-- R25, R33, R35, R36, R43, R46: every step keeps each link's timers and counts in the states that run them. (The premise on the loader is
the invariant of `StepsKeepTheServiceSound`.) -/
def Obligations.StepsKeepTheLinksSound : Prop :=
  ∀ s t : State, s.ServiceSound → s.LinksSound → step s = .next t → t.LinksSound

/-- R149, R150, R156, R158: every step keeps the sync state, the miss run, EPOCH_SOURCE, the pin monitor and the interval in agreement. -/
def Obligations.StepsKeepTheEpochSound : Prop :=
  ∀ s t : State, s.EpochSound → step s = .next t → t.EpochSound

/-- R191, R192: the state that ELEMENT_RESET leaves, for every sample of BOOT_SEL and ID and from every state, has every invariant
that the steps keep, and so has State.reset, whose samples are the model's choice (BOOT_SEL high, ID 0, EPOCH_IN low, log entry
7). -/
def Obligations.InvariantsHoldAtReset : Prop :=
  ∀ t : State, (t = State.reset ∨ ∃ bootSel id s, exec (.elementReset bootSel id) s = .next t) →
    t.BufferConserved ∧ t.QueuesBounded ∧ t.CreditBounded ∧ t.ServiceSound ∧ t.ConfigSound ∧ t.RoutesSound ∧ t.LinksSound ∧
    t.EpochSound
end

