-- ==== Sys2Proof/Laws/State.lean ====
section
/-! SUPPORT. What each update of the state leaves as it was and what it writes: one lemma for a field and an update, true by
computation, so that no proof unfolds a record update. -/

namespace Sys2Proof.Machine

variable (s : State)

/-! ### `setPort` -/

@[simp] theorem setPort_inReset (l : LinkId) (p : Port) : (s.setPort l p).inReset = s.inReset := rfl
@[simp] theorem setPort_ports (l : LinkId) (p : Port) : (s.setPort l p).ports = s.ports.set l p := rfl
@[simp] theorem setPort_routes (l : LinkId) (p : Port) : (s.setPort l p).routes = s.routes := rfl
@[simp] theorem setPort_commit (l : LinkId) (p : Port) : (s.setPort l p).commit = s.commit := rfl
@[simp] theorem setPort_buffer (l : LinkId) (p : Port) : (s.setPort l p).buffer = s.buffer := rfl
@[simp] theorem setPort_flow (l : LinkId) (p : Port) : (s.setPort l p).flow = s.flow := rfl
@[simp] theorem setPort_epoch (l : LinkId) (p : Port) : (s.setPort l p).epoch = s.epoch := rfl
@[simp] theorem setPort_agent (l : LinkId) (p : Port) : (s.setPort l p).agent = s.agent := rfl
@[simp] theorem setPort_notice (l : LinkId) (p : Port) : (s.setPort l p).notice = s.notice := rfl
@[simp] theorem setPort_elementCounters (l : LinkId) (p : Port) : (s.setPort l p).elementCounters = s.elementCounters := rfl
@[simp] theorem setPort_boot (l : LinkId) (p : Port) : (s.setPort l p).boot = s.boot := rfl
@[simp] theorem setPort_pending (l : LinkId) (p : Port) : (s.setPort l p).pending = s.pending := rfl
@[simp] theorem setPort_param (l : LinkId) (p : Port) (q : Param) : (s.setPort l p).param q = s.param q := rfl

/-! ### `modPort` -/

@[simp] theorem modPort_inReset (l : LinkId) (f : Port → Port) : (s.modPort l f).inReset = s.inReset := rfl
@[simp] theorem modPort_ports (l : LinkId) (f : Port → Port) : (s.modPort l f).ports = s.ports.set l (f (s.port l)) := rfl
@[simp] theorem modPort_routes (l : LinkId) (f : Port → Port) : (s.modPort l f).routes = s.routes := rfl
@[simp] theorem modPort_commit (l : LinkId) (f : Port → Port) : (s.modPort l f).commit = s.commit := rfl
@[simp] theorem modPort_buffer (l : LinkId) (f : Port → Port) : (s.modPort l f).buffer = s.buffer := rfl
@[simp] theorem modPort_flow (l : LinkId) (f : Port → Port) : (s.modPort l f).flow = s.flow := rfl
@[simp] theorem modPort_epoch (l : LinkId) (f : Port → Port) : (s.modPort l f).epoch = s.epoch := rfl
@[simp] theorem modPort_agent (l : LinkId) (f : Port → Port) : (s.modPort l f).agent = s.agent := rfl
@[simp] theorem modPort_notice (l : LinkId) (f : Port → Port) : (s.modPort l f).notice = s.notice := rfl
@[simp] theorem modPort_elementCounters (l : LinkId) (f : Port → Port) : (s.modPort l f).elementCounters = s.elementCounters := rfl
@[simp] theorem modPort_boot (l : LinkId) (f : Port → Port) : (s.modPort l f).boot = s.boot := rfl
@[simp] theorem modPort_pending (l : LinkId) (f : Port → Port) : (s.modPort l f).pending = s.pending := rfl
@[simp] theorem modPort_param (l : LinkId) (f : Port → Port) (q : Param) : (s.modPort l f).param q = s.param q := rfl

/-! ### `modUnit` -/

@[simp] theorem modUnit_inReset (l : LinkId) (f : LinkUnit → LinkUnit) : (s.modUnit l f).inReset = s.inReset := rfl
@[simp] theorem modUnit_routes (l : LinkId) (f : LinkUnit → LinkUnit) : (s.modUnit l f).routes = s.routes := rfl
@[simp] theorem modUnit_commit (l : LinkId) (f : LinkUnit → LinkUnit) : (s.modUnit l f).commit = s.commit := rfl
@[simp] theorem modUnit_buffer (l : LinkId) (f : LinkUnit → LinkUnit) : (s.modUnit l f).buffer = s.buffer := rfl
@[simp] theorem modUnit_flow (l : LinkId) (f : LinkUnit → LinkUnit) : (s.modUnit l f).flow = s.flow := rfl
@[simp] theorem modUnit_epoch (l : LinkId) (f : LinkUnit → LinkUnit) : (s.modUnit l f).epoch = s.epoch := rfl
@[simp] theorem modUnit_agent (l : LinkId) (f : LinkUnit → LinkUnit) : (s.modUnit l f).agent = s.agent := rfl
@[simp] theorem modUnit_notice (l : LinkId) (f : LinkUnit → LinkUnit) : (s.modUnit l f).notice = s.notice := rfl
@[simp] theorem modUnit_elementCounters (l : LinkId) (f : LinkUnit → LinkUnit) : (s.modUnit l f).elementCounters = s.elementCounters := rfl
@[simp] theorem modUnit_boot (l : LinkId) (f : LinkUnit → LinkUnit) : (s.modUnit l f).boot = s.boot := rfl
@[simp] theorem modUnit_pending (l : LinkId) (f : LinkUnit → LinkUnit) : (s.modUnit l f).pending = s.pending := rfl
@[simp] theorem modUnit_param (l : LinkId) (f : LinkUnit → LinkUnit) (q : Param) : (s.modUnit l f).param q = s.param q := rfl

/-! ### `mapPorts` -/

@[simp] theorem mapPorts_inReset (f : Port → Port) : (s.mapPorts f).inReset = s.inReset := rfl
@[simp] theorem mapPorts_ports (f : Port → Port) : (s.mapPorts f).ports = s.ports.map f := rfl
@[simp] theorem mapPorts_routes (f : Port → Port) : (s.mapPorts f).routes = s.routes := rfl
@[simp] theorem mapPorts_commit (f : Port → Port) : (s.mapPorts f).commit = s.commit := rfl
@[simp] theorem mapPorts_buffer (f : Port → Port) : (s.mapPorts f).buffer = s.buffer := rfl
@[simp] theorem mapPorts_flow (f : Port → Port) : (s.mapPorts f).flow = s.flow := rfl
@[simp] theorem mapPorts_epoch (f : Port → Port) : (s.mapPorts f).epoch = s.epoch := rfl
@[simp] theorem mapPorts_agent (f : Port → Port) : (s.mapPorts f).agent = s.agent := rfl
@[simp] theorem mapPorts_notice (f : Port → Port) : (s.mapPorts f).notice = s.notice := rfl
@[simp] theorem mapPorts_elementCounters (f : Port → Port) : (s.mapPorts f).elementCounters = s.elementCounters := rfl
@[simp] theorem mapPorts_boot (f : Port → Port) : (s.mapPorts f).boot = s.boot := rfl
@[simp] theorem mapPorts_pending (f : Port → Port) : (s.mapPorts f).pending = s.pending := rfl
@[simp] theorem mapPorts_param (f : Port → Port) (q : Param) : (s.mapPorts f).param q = s.param q := rfl

/-! ### `countLink` -/

@[simp] theorem countLink_inReset (l : LinkId) (k : LinkCounter) : (s.countLink l k).inReset = s.inReset := rfl
@[simp] theorem countLink_routes (l : LinkId) (k : LinkCounter) : (s.countLink l k).routes = s.routes := rfl
@[simp] theorem countLink_commit (l : LinkId) (k : LinkCounter) : (s.countLink l k).commit = s.commit := rfl
@[simp] theorem countLink_buffer (l : LinkId) (k : LinkCounter) : (s.countLink l k).buffer = s.buffer := rfl
@[simp] theorem countLink_flow (l : LinkId) (k : LinkCounter) : (s.countLink l k).flow = s.flow := rfl
@[simp] theorem countLink_epoch (l : LinkId) (k : LinkCounter) : (s.countLink l k).epoch = s.epoch := rfl
@[simp] theorem countLink_agent (l : LinkId) (k : LinkCounter) : (s.countLink l k).agent = s.agent := rfl
@[simp] theorem countLink_notice (l : LinkId) (k : LinkCounter) : (s.countLink l k).notice = s.notice := rfl
@[simp] theorem countLink_elementCounters (l : LinkId) (k : LinkCounter) : (s.countLink l k).elementCounters = s.elementCounters := rfl
@[simp] theorem countLink_boot (l : LinkId) (k : LinkCounter) : (s.countLink l k).boot = s.boot := rfl
@[simp] theorem countLink_pending (l : LinkId) (k : LinkCounter) : (s.countLink l k).pending = s.pending := rfl
@[simp] theorem countLink_param (l : LinkId) (k : LinkCounter) (q : Param) : (s.countLink l k).param q = s.param q := rfl

/-! ### `countElement` -/

@[simp] theorem countElement_inReset (k : ElementCounter) : (s.countElement k).inReset = s.inReset := rfl
@[simp] theorem countElement_ports (k : ElementCounter) : (s.countElement k).ports = s.ports := rfl
@[simp] theorem countElement_routes (k : ElementCounter) : (s.countElement k).routes = s.routes := rfl
@[simp] theorem countElement_commit (k : ElementCounter) : (s.countElement k).commit = s.commit := rfl
@[simp] theorem countElement_buffer (k : ElementCounter) : (s.countElement k).buffer = s.buffer := rfl
@[simp] theorem countElement_flow (k : ElementCounter) : (s.countElement k).flow = s.flow := rfl
@[simp] theorem countElement_epoch (k : ElementCounter) : (s.countElement k).epoch = s.epoch := rfl
@[simp] theorem countElement_agent (k : ElementCounter) : (s.countElement k).agent = s.agent := rfl
@[simp] theorem countElement_notice (k : ElementCounter) : (s.countElement k).notice = s.notice := rfl
@[simp] theorem countElement_elementCounters (k : ElementCounter) : (s.countElement k).elementCounters = s.elementCounters.set k.index (countUp s.elementCounters[k.index]) := rfl
@[simp] theorem countElement_boot (k : ElementCounter) : (s.countElement k).boot = s.boot := rfl
@[simp] theorem countElement_pending (k : ElementCounter) : (s.countElement k).pending = s.pending := rfl
@[simp] theorem countElement_port (k : ElementCounter) (m : LinkId) : (s.countElement k).port m = s.port m := rfl
@[simp] theorem countElement_param (k : ElementCounter) (q : Param) : (s.countElement k).param q = s.param q := rfl

/-! ### `modRoutes` -/

@[simp] theorem modRoutes_inReset (f : RouteStore → RouteStore) : (s.modRoutes f).inReset = s.inReset := rfl
@[simp] theorem modRoutes_ports (f : RouteStore → RouteStore) : (s.modRoutes f).ports = s.ports := rfl
@[simp] theorem modRoutes_routes (f : RouteStore → RouteStore) : (s.modRoutes f).routes = f s.routes := rfl
@[simp] theorem modRoutes_commit (f : RouteStore → RouteStore) : (s.modRoutes f).commit = s.commit := rfl
@[simp] theorem modRoutes_buffer (f : RouteStore → RouteStore) : (s.modRoutes f).buffer = s.buffer := rfl
@[simp] theorem modRoutes_flow (f : RouteStore → RouteStore) : (s.modRoutes f).flow = s.flow := rfl
@[simp] theorem modRoutes_epoch (f : RouteStore → RouteStore) : (s.modRoutes f).epoch = s.epoch := rfl
@[simp] theorem modRoutes_agent (f : RouteStore → RouteStore) : (s.modRoutes f).agent = s.agent := rfl
@[simp] theorem modRoutes_notice (f : RouteStore → RouteStore) : (s.modRoutes f).notice = s.notice := rfl
@[simp] theorem modRoutes_elementCounters (f : RouteStore → RouteStore) : (s.modRoutes f).elementCounters = s.elementCounters := rfl
@[simp] theorem modRoutes_boot (f : RouteStore → RouteStore) : (s.modRoutes f).boot = s.boot := rfl
@[simp] theorem modRoutes_pending (f : RouteStore → RouteStore) : (s.modRoutes f).pending = s.pending := rfl
@[simp] theorem modRoutes_port (f : RouteStore → RouteStore) (m : LinkId) : (s.modRoutes f).port m = s.port m := rfl
@[simp] theorem modRoutes_param (f : RouteStore → RouteStore) (q : Param) : (s.modRoutes f).param q = s.param q := rfl

/-! ### `modCommit` -/

@[simp] theorem modCommit_inReset (f : CommitUnit → CommitUnit) : (s.modCommit f).inReset = s.inReset := rfl
@[simp] theorem modCommit_ports (f : CommitUnit → CommitUnit) : (s.modCommit f).ports = s.ports := rfl
@[simp] theorem modCommit_routes (f : CommitUnit → CommitUnit) : (s.modCommit f).routes = s.routes := rfl
@[simp] theorem modCommit_commit (f : CommitUnit → CommitUnit) : (s.modCommit f).commit = f s.commit := rfl
@[simp] theorem modCommit_buffer (f : CommitUnit → CommitUnit) : (s.modCommit f).buffer = s.buffer := rfl
@[simp] theorem modCommit_flow (f : CommitUnit → CommitUnit) : (s.modCommit f).flow = s.flow := rfl
@[simp] theorem modCommit_epoch (f : CommitUnit → CommitUnit) : (s.modCommit f).epoch = s.epoch := rfl
@[simp] theorem modCommit_agent (f : CommitUnit → CommitUnit) : (s.modCommit f).agent = s.agent := rfl
@[simp] theorem modCommit_notice (f : CommitUnit → CommitUnit) : (s.modCommit f).notice = s.notice := rfl
@[simp] theorem modCommit_elementCounters (f : CommitUnit → CommitUnit) : (s.modCommit f).elementCounters = s.elementCounters := rfl
@[simp] theorem modCommit_boot (f : CommitUnit → CommitUnit) : (s.modCommit f).boot = s.boot := rfl
@[simp] theorem modCommit_pending (f : CommitUnit → CommitUnit) : (s.modCommit f).pending = s.pending := rfl
@[simp] theorem modCommit_port (f : CommitUnit → CommitUnit) (m : LinkId) : (s.modCommit f).port m = s.port m := rfl
@[simp] theorem modCommit_param (f : CommitUnit → CommitUnit) (q : Param) : (s.modCommit f).param q = s.param q := rfl

/-! ### `modEpoch` -/

@[simp] theorem modEpoch_inReset (f : EpochUnit → EpochUnit) : (s.modEpoch f).inReset = s.inReset := rfl
@[simp] theorem modEpoch_ports (f : EpochUnit → EpochUnit) : (s.modEpoch f).ports = s.ports := rfl
@[simp] theorem modEpoch_routes (f : EpochUnit → EpochUnit) : (s.modEpoch f).routes = s.routes := rfl
@[simp] theorem modEpoch_commit (f : EpochUnit → EpochUnit) : (s.modEpoch f).commit = s.commit := rfl
@[simp] theorem modEpoch_buffer (f : EpochUnit → EpochUnit) : (s.modEpoch f).buffer = s.buffer := rfl
@[simp] theorem modEpoch_flow (f : EpochUnit → EpochUnit) : (s.modEpoch f).flow = s.flow := rfl
@[simp] theorem modEpoch_epoch (f : EpochUnit → EpochUnit) : (s.modEpoch f).epoch = f s.epoch := rfl
@[simp] theorem modEpoch_agent (f : EpochUnit → EpochUnit) : (s.modEpoch f).agent = s.agent := rfl
@[simp] theorem modEpoch_notice (f : EpochUnit → EpochUnit) : (s.modEpoch f).notice = s.notice := rfl
@[simp] theorem modEpoch_elementCounters (f : EpochUnit → EpochUnit) : (s.modEpoch f).elementCounters = s.elementCounters := rfl
@[simp] theorem modEpoch_boot (f : EpochUnit → EpochUnit) : (s.modEpoch f).boot = s.boot := rfl
@[simp] theorem modEpoch_pending (f : EpochUnit → EpochUnit) : (s.modEpoch f).pending = s.pending := rfl
@[simp] theorem modEpoch_port (f : EpochUnit → EpochUnit) (m : LinkId) : (s.modEpoch f).port m = s.port m := rfl
@[simp] theorem modEpoch_param (f : EpochUnit → EpochUnit) (q : Param) : (s.modEpoch f).param q = s.param q := rfl

/-! ### `modBoot` -/

@[simp] theorem modBoot_inReset (f : BootLoader → BootLoader) : (s.modBoot f).inReset = s.inReset := rfl
@[simp] theorem modBoot_ports (f : BootLoader → BootLoader) : (s.modBoot f).ports = s.ports := rfl
@[simp] theorem modBoot_routes (f : BootLoader → BootLoader) : (s.modBoot f).routes = s.routes := rfl
@[simp] theorem modBoot_commit (f : BootLoader → BootLoader) : (s.modBoot f).commit = s.commit := rfl
@[simp] theorem modBoot_buffer (f : BootLoader → BootLoader) : (s.modBoot f).buffer = s.buffer := rfl
@[simp] theorem modBoot_flow (f : BootLoader → BootLoader) : (s.modBoot f).flow = s.flow := rfl
@[simp] theorem modBoot_epoch (f : BootLoader → BootLoader) : (s.modBoot f).epoch = s.epoch := rfl
@[simp] theorem modBoot_agent (f : BootLoader → BootLoader) : (s.modBoot f).agent = s.agent := rfl
@[simp] theorem modBoot_notice (f : BootLoader → BootLoader) : (s.modBoot f).notice = s.notice := rfl
@[simp] theorem modBoot_elementCounters (f : BootLoader → BootLoader) : (s.modBoot f).elementCounters = s.elementCounters := rfl
@[simp] theorem modBoot_boot (f : BootLoader → BootLoader) : (s.modBoot f).boot = f s.boot := rfl
@[simp] theorem modBoot_pending (f : BootLoader → BootLoader) : (s.modBoot f).pending = s.pending := rfl
@[simp] theorem modBoot_port (f : BootLoader → BootLoader) (m : LinkId) : (s.modBoot f).port m = s.port m := rfl
@[simp] theorem modBoot_param (f : BootLoader → BootLoader) (q : Param) : (s.modBoot f).param q = s.param q := rfl

/-! ### `setNoticePending` -/

@[simp] theorem setNoticePending_inReset : (s.setNoticePending).inReset = s.inReset := rfl
@[simp] theorem setNoticePending_ports : (s.setNoticePending).ports = s.ports := rfl
@[simp] theorem setNoticePending_routes : (s.setNoticePending).routes = s.routes := rfl
@[simp] theorem setNoticePending_commit : (s.setNoticePending).commit = s.commit := rfl
@[simp] theorem setNoticePending_buffer : (s.setNoticePending).buffer = s.buffer := rfl
@[simp] theorem setNoticePending_flow : (s.setNoticePending).flow = s.flow := rfl
@[simp] theorem setNoticePending_epoch : (s.setNoticePending).epoch = s.epoch := rfl
@[simp] theorem setNoticePending_agent : (s.setNoticePending).agent = s.agent := rfl
@[simp] theorem setNoticePending_elementCounters : (s.setNoticePending).elementCounters = s.elementCounters := rfl
@[simp] theorem setNoticePending_boot : (s.setNoticePending).boot = s.boot := rfl
@[simp] theorem setNoticePending_pending : (s.setNoticePending).pending = s.pending := rfl
@[simp] theorem setNoticePending_port (m : LinkId) : (s.setNoticePending).port m = s.port m := rfl
@[simp] theorem setNoticePending_param (q : Param) : (s.setNoticePending).param q = s.param q := rfl

/-! ### `latch` -/

@[simp] theorem latch_inReset (f : ElementFlag) : (s.latch f).inReset = s.inReset := rfl
@[simp] theorem latch_ports (f : ElementFlag) : (s.latch f).ports = s.ports := rfl
@[simp] theorem latch_routes (f : ElementFlag) : (s.latch f).routes = s.routes := rfl
@[simp] theorem latch_commit (f : ElementFlag) : (s.latch f).commit = s.commit := rfl
@[simp] theorem latch_buffer (f : ElementFlag) : (s.latch f).buffer = s.buffer := rfl
@[simp] theorem latch_flow (f : ElementFlag) : (s.latch f).flow = s.flow := rfl
@[simp] theorem latch_epoch (f : ElementFlag) : (s.latch f).epoch = s.epoch := rfl
@[simp] theorem latch_agent (f : ElementFlag) : (s.latch f).agent = s.agent := rfl
@[simp] theorem latch_elementCounters (f : ElementFlag) : (s.latch f).elementCounters = s.elementCounters := rfl
@[simp] theorem latch_boot (f : ElementFlag) : (s.latch f).boot = s.boot := rfl
@[simp] theorem latch_pending (f : ElementFlag) : (s.latch f).pending = s.pending := rfl
@[simp] theorem latch_port (f : ElementFlag) (m : LinkId) : (s.latch f).port m = s.port m := rfl
@[simp] theorem latch_param (f : ElementFlag) (q : Param) : (s.latch f).param q = s.param q := rfl

/-! ### `dropRequest` -/

@[simp] theorem dropRequest_inReset (q : List Request) : (s.dropRequest q).inReset = s.inReset := rfl
@[simp] theorem dropRequest_ports (q : List Request) : (s.dropRequest q).ports = s.ports := rfl
@[simp] theorem dropRequest_routes (q : List Request) : (s.dropRequest q).routes = s.routes := rfl
@[simp] theorem dropRequest_commit (q : List Request) : (s.dropRequest q).commit = s.commit := rfl
@[simp] theorem dropRequest_buffer (q : List Request) : (s.dropRequest q).buffer = s.buffer := rfl
@[simp] theorem dropRequest_flow (q : List Request) : (s.dropRequest q).flow = s.flow := rfl
@[simp] theorem dropRequest_epoch (q : List Request) : (s.dropRequest q).epoch = s.epoch := rfl
@[simp] theorem dropRequest_agent (q : List Request) : (s.dropRequest q).agent = { s.agent with requests := q } := rfl
@[simp] theorem dropRequest_notice (q : List Request) : (s.dropRequest q).notice = s.notice := rfl
@[simp] theorem dropRequest_elementCounters (q : List Request) : (s.dropRequest q).elementCounters = s.elementCounters := rfl
@[simp] theorem dropRequest_boot (q : List Request) : (s.dropRequest q).boot = s.boot := rfl
@[simp] theorem dropRequest_pending (q : List Request) : (s.dropRequest q).pending = s.pending := rfl
@[simp] theorem dropRequest_port (q : List Request) (m : LinkId) : (s.dropRequest q).port m = s.port m := rfl

/-! ### `startGap` -/

@[simp] theorem startGap_inReset : (s.startGap).inReset = s.inReset := rfl
@[simp] theorem startGap_ports : (s.startGap).ports = s.ports := rfl
@[simp] theorem startGap_routes : (s.startGap).routes = s.routes := rfl
@[simp] theorem startGap_commit : (s.startGap).commit = s.commit := rfl
@[simp] theorem startGap_buffer : (s.startGap).buffer = s.buffer := rfl
@[simp] theorem startGap_flow : (s.startGap).flow = { s.flow with gapTimer := some (s.param .flowGap) } := rfl
@[simp] theorem startGap_epoch : (s.startGap).epoch = s.epoch := rfl
@[simp] theorem startGap_agent : (s.startGap).agent = s.agent := rfl
@[simp] theorem startGap_notice : (s.startGap).notice = s.notice := rfl
@[simp] theorem startGap_elementCounters : (s.startGap).elementCounters = s.elementCounters := rfl
@[simp] theorem startGap_boot : (s.startGap).boot = s.boot := rfl
@[simp] theorem startGap_pending : (s.startGap).pending = s.pending := rfl
@[simp] theorem startGap_port (m : LinkId) : (s.startGap).port m = s.port m := rfl
@[simp] theorem startGap_param (q : Param) : (s.startGap).param q = s.param q := rfl

/-! ### `hand` -/

@[simp] theorem hand_inReset (l : LinkId) (x : Option Cell) : (s.hand l x).inReset = s.inReset := rfl
@[simp] theorem hand_routes (l : LinkId) (x : Option Cell) : (s.hand l x).routes = s.routes := rfl
@[simp] theorem hand_commit (l : LinkId) (x : Option Cell) : (s.hand l x).commit = s.commit := rfl
@[simp] theorem hand_buffer (l : LinkId) (x : Option Cell) : (s.hand l x).buffer = s.buffer := rfl
@[simp] theorem hand_flow (l : LinkId) (x : Option Cell) : (s.hand l x).flow = s.flow := rfl
@[simp] theorem hand_epoch (l : LinkId) (x : Option Cell) : (s.hand l x).epoch = s.epoch := rfl
@[simp] theorem hand_agent (l : LinkId) (x : Option Cell) : (s.hand l x).agent = s.agent := rfl
@[simp] theorem hand_notice (l : LinkId) (x : Option Cell) : (s.hand l x).notice = s.notice := rfl
@[simp] theorem hand_elementCounters (l : LinkId) (x : Option Cell) : (s.hand l x).elementCounters = s.elementCounters := rfl
@[simp] theorem hand_boot (l : LinkId) (x : Option Cell) : (s.hand l x).boot = s.boot := rfl
@[simp] theorem hand_pending (l : LinkId) (x : Option Cell) : (s.hand l x).pending = s.pending := rfl
@[simp] theorem hand_param (l : LinkId) (x : Option Cell) (q : Param) : (s.hand l x).param q = s.param q := rfl

/-! ### `placeControl` -/

@[simp] theorem placeControl_inReset (l : LinkId) (x : ControlCell) : (s.placeControl l x).inReset = s.inReset := rfl
@[simp] theorem placeControl_routes (l : LinkId) (x : ControlCell) : (s.placeControl l x).routes = s.routes := rfl
@[simp] theorem placeControl_commit (l : LinkId) (x : ControlCell) : (s.placeControl l x).commit = s.commit := rfl
@[simp] theorem placeControl_buffer (l : LinkId) (x : ControlCell) : (s.placeControl l x).buffer = s.buffer := rfl
@[simp] theorem placeControl_flow (l : LinkId) (x : ControlCell) : (s.placeControl l x).flow = s.flow := rfl
@[simp] theorem placeControl_epoch (l : LinkId) (x : ControlCell) : (s.placeControl l x).epoch = s.epoch := rfl
@[simp] theorem placeControl_agent (l : LinkId) (x : ControlCell) : (s.placeControl l x).agent = s.agent := rfl
@[simp] theorem placeControl_notice (l : LinkId) (x : ControlCell) : (s.placeControl l x).notice = s.notice := rfl
@[simp] theorem placeControl_elementCounters (l : LinkId) (x : ControlCell) : (s.placeControl l x).elementCounters = s.elementCounters := rfl
@[simp] theorem placeControl_boot (l : LinkId) (x : ControlCell) : (s.placeControl l x).boot = s.boot := rfl
@[simp] theorem placeControl_pending (l : LinkId) (x : ControlCell) : (s.placeControl l x).pending = s.pending := rfl
@[simp] theorem placeControl_param (l : LinkId) (x : ControlCell) (q : Param) : (s.placeControl l x).param q = s.param q := rfl

/-! ### One link -/

@[simp] theorem port_setPort_self (l : LinkId) (p : Port) : (s.setPort l p).port l = p := by
  simp [State.port, State.setPort]

@[simp] theorem port_modPort_self (l : LinkId) (f : Port → Port) : (s.modPort l f).port l = f (s.port l) := by
  simp [State.modPort]

@[simp] theorem port_modUnit_self (l : LinkId) (f : LinkUnit → LinkUnit) :
    (s.modUnit l f).port l = { s.port l with unit := f (s.port l).unit } := by
  simp [State.modUnit]

@[simp] theorem port_countLink_self (l : LinkId) (k : LinkCounter) : (s.countLink l k).port l = (s.port l).count k := by
  simp [State.countLink]

@[simp] theorem port_mapPorts (f : Port → Port) (l : LinkId) : (s.mapPorts f).port l = f (s.port l) := by
  simp [State.port, State.mapPorts]

@[simp] theorem port_hand_self (l : LinkId) (x : Option Cell) :
    (s.hand l x).port l = { s.port l with transmitter := x } := by
  simp [State.hand]

@[simp] theorem port_placeControl_self (l : LinkId) (x : ControlCell) :
    (s.placeControl l x).port l =
      { s.port l with sched := { (s.port l).sched with control := (s.port l).sched.control ++ [x] } } := by
  simp [State.placeControl]

variable {s}

theorem port_setPort_ne {l m : LinkId} (h : m ≠ l) (p : Port) : (s.setPort l p).port m = s.port m := by
  have : l.val ≠ m.val := fun e => h (Fin.ext e.symm)
  simp [State.port, State.setPort, this]

theorem port_modPort_ne {l m : LinkId} (h : m ≠ l) (f : Port → Port) : (s.modPort l f).port m = s.port m :=
  port_setPort_ne h _

theorem port_modUnit_ne {l m : LinkId} (h : m ≠ l) (f : LinkUnit → LinkUnit) : (s.modUnit l f).port m = s.port m :=
  port_setPort_ne h _

theorem port_countLink_ne {l m : LinkId} (h : m ≠ l) (k : LinkCounter) : (s.countLink l k).port m = s.port m :=
  port_setPort_ne h _

theorem port_hand_ne {l m : LinkId} (h : m ≠ l) (x : Option Cell) : (s.hand l x).port m = s.port m :=
  port_setPort_ne h _

theorem port_placeControl_ne {l m : LinkId} (h : m ≠ l) (x : ControlCell) : (s.placeControl l x).port m = s.port m :=
  port_setPort_ne h _

/-- Changing a link and then changing it again is one change. -/
theorem modPort_modPort (l : LinkId) (f g : Port → Port) : (s.modPort l f).modPort l g = s.modPort l (g ∘ f) := by
  simp [State.modPort, State.setPort, State.port]

/-- Changes of two links commute. -/
theorem modPort_comm {l m : LinkId} (h : m ≠ l) (f g : Port → Port) :
    (s.modPort l f).modPort m g = (s.modPort m g).modPort l f := by
  have e : l.val ≠ m.val := fun e => h (Fin.ext e.symm)
  simp only [State.modPort, port_setPort_ne h, port_setPort_ne (Ne.symm h)]
  simp only [State.setPort, State.mk.injEq, true_and, and_true]
  exact Vector.set_comm _ _ e

end Sys2Proof.Machine
end

