-- ==== Sys2Proof/Laws/Frames.lean ====
section
/-! SUPPORT. What each shared operation can change: the state after it is the state before it but for the fields named. A
field that is not named is as it was (`congrArg State.routes (…_frame …)` and its like). -/

namespace Sys2Proof.Machine

variable (s : State)

/-! ### Flags, change notices and congestion (R106, R108, R120, R121, R123, R181) -/

theorem latchLink_frame (l : LinkId) (f : LinkFlag) :
    s.latchLink l f = { s with ports := (s.latchLink l f).ports, notice := (s.latchLink l f).notice } := by
  unfold State.latchLink
  dsimp only
  split <;> rfl

theorem markFlowDue_frame : s.markFlowDue = { s with ports := s.markFlowDue.ports } := rfl

theorem changeNotice_frame :
    s.changeNotice = { s with ports := s.changeNotice.ports, flow := s.changeNotice.flow } := by
  unfold State.changeNotice
  split <;> rfl

theorem gapExpiry_frame : s.gapExpiry = { s with ports := s.gapExpiry.ports, flow := s.gapExpiry.flow } := by
  unfold State.gapExpiry
  split
  · rfl
  · split <;> rfl

theorem refreshFlow_frame : s.refreshFlow = { s with ports := s.refreshFlow.ports, flow := s.refreshFlow.flow } := by
  unfold State.refreshFlow
  split <;> rfl

theorem setXoff_frame (l : LinkId) (c : ClassId) (b : Bool) :
    s.setXoff l c b = { s with ports := (s.setXoff l c b).ports, flow := (s.setXoff l c b).flow } := by
  unfold State.setXoff
  split
  · rfl
  · rw [changeNotice_frame]; rfl

theorem xoffAfterAppend_frame (l : LinkId) (c : ClassId) :
    s.xoffAfterAppend l c = { s with ports := (s.xoffAfterAppend l c).ports, flow := (s.xoffAfterAppend l c).flow } := by
  unfold State.xoffAfterAppend
  split
  · exact setXoff_frame s l c true
  · rfl

theorem xoffAfterRemoval_frame (l : LinkId) (c : ClassId) :
    s.xoffAfterRemoval l c = { s with ports := (s.xoffAfterRemoval l c).ports, flow := (s.xoffAfterRemoval l c).flow } := by
  unfold State.xoffAfterRemoval
  split
  · exact setXoff_frame s l c false
  · rfl

theorem xoffReevaluate_frame (l : LinkId) (c : ClassId) :
    s.xoffReevaluate l c = { s with ports := (s.xoffReevaluate l c).ports, flow := (s.xoffReevaluate l c).flow } := by
  unfold State.xoffReevaluate
  split
  · exact setXoff_frame s l c true
  · split
    · exact setXoff_frame s l c false
    · rfl

theorem setCongested_frame (b : Bool) :
    s.setCongested b =
      { s with ports := (s.setCongested b).ports, flow := (s.setCongested b).flow,
               buffer := { s.buffer with congested := b }, notice := (s.setCongested b).notice } := by
  unfold State.setCongested
  split
  · subst_vars; rfl
  · rw [changeNotice_frame]
    split <;> rfl

theorem evalCongestion_frame :
    s.evalCongestion =
      { s with ports := s.evalCongestion.ports, flow := s.evalCongestion.flow,
               buffer := { s.buffer with congested := s.evalCongestion.buffer.congested },
               notice := s.evalCongestion.notice } := by
  unfold State.evalCongestion
  split
  · rw [setCongested_frame]
  · split
    · rw [setCongested_frame]
    · rfl

/-! ### Buffer and queues (R97 to R103) -/

theorem append_frame (l : LinkId) (c : ClassId) (slot : Nat) :
    s.append l c slot =
      { s with ports := (s.append l c slot).ports, flow := (s.append l c slot).flow,
               buffer := { s.buffer with freeDesc := s.buffer.freeDesc - 1 } } := by
  unfold State.append
  rw [xoffAfterAppend_frame]
  rfl

theorem latchExhaustion_frame : s.latchExhaustion = { s with notice := s.latchExhaustion.notice } := by
  unfold State.latchExhaustion
  split <;> (dsimp only; split <;> rfl)

theorem foldl_append_frame (c : ClassId) (slot : Nat) (targets : List Target) :
    targets.foldl (fun t l => t.append l c slot) s =
      { s with ports := (targets.foldl (fun t l => t.append l c slot) s).ports,
               flow := (targets.foldl (fun t l => t.append l c slot) s).flow,
               buffer := { s.buffer with freeDesc := s.buffer.freeDesc - targets.length } } := by
  induction targets generalizing s with
  | nil => rfl
  | cons l rest ih =>
    rw [List.foldl_cons, ih, append_frame]
    simp only [List.length_cons, Nat.sub_sub, Nat.add_comm]

theorem admit_frame (c : ClassId) (cell : Cell) (targets : List Target) :
    s.admitCell c cell targets =
      { s with ports := (s.admitCell c cell targets).ports, flow := (s.admitCell c cell targets).flow,
               buffer := { s.buffer.store cell targets.length with
                 freeDesc := s.buffer.freeDesc - targets.length
                 congested := (s.admitCell c cell targets).buffer.congested }
               notice := (s.admitCell c cell targets).notice } := by
  unfold State.admitCell
  dsimp only
  rw [latchExhaustion_frame, evalCongestion_frame, foldl_append_frame]
  rfl

theorem removeHead_frame (l : LinkId) (c : ClassId) (slot : Nat) (rest : List Nat) :
    s.removeHead l c slot rest =
      { s with ports := (s.removeHead l c slot rest).ports, flow := (s.removeHead l c slot rest).flow,
               buffer := { s.buffer.release slot with
                 freeDesc := (s.buffer.release slot).freeDesc + 1
                 congested := (s.removeHead l c slot rest).buffer.congested }
               notice := (s.removeHead l c slot rest).notice } := by
  unfold State.removeHead
  dsimp only
  split
  · rw [xoffAfterRemoval_frame]; rfl
  · rw [evalCongestion_frame, xoffAfterRemoval_frame]; rfl

/-! ### Link units (R25, R32, R37 to R40, R109, R111, R139) -/

theorem countElementTimes_frame (k : ElementCounter) (n : Nat) :
    s.countElementTimes k n = { s with elementCounters := (s.countElementTimes k n).elementCounters } := by
  induction n generalizing s with
  | zero => rfl
  | succ n ih => rw [State.countElementTimes, ih]; rfl

theorem emptyControl_frame (l : LinkId) :
    s.emptyControl l =
      { s with ports := (s.emptyControl l).ports, elementCounters := (s.emptyControl l).elementCounters,
               notice := (s.emptyControl l).notice } := by
  unfold State.emptyControl
  dsimp only
  split
  · rw [countElementTimes_frame]; rfl
  · rw [countElementTimes_frame]; rfl

theorem enterUp_frame (l : LinkId) :
    s.enterUp l =
      { s with ports := (s.enterUp l).ports, flow := (s.enterUp l).flow, notice := (s.enterUp l).notice } := by
  unfold State.enterUp
  rw [changeNotice_frame, latchLink_frame]
  rfl

theorem completeFlush_frame (l : LinkId) :
    s.completeFlush l =
      { s with ports := (s.completeFlush l).ports, flow := (s.completeFlush l).flow, notice := (s.completeFlush l).notice } := by
  unfold State.completeFlush
  dsimp only
  split
  · rw [enterUp_frame]; rfl
  · rfl

theorem requestFlush_frame (l : LinkId) :
    s.requestFlush l =
      { s with ports := (s.requestFlush l).ports, flow := (s.requestFlush l).flow, notice := (s.requestFlush l).notice } := by
  unfold State.requestFlush
  split
  · rfl
  · dsimp only
    split
    · rw [completeFlush_frame]; rfl
    · rfl

theorem tellLeftUp_frame (was : LinkState) :
    s.tellLeftUp was = { s with ports := (s.tellLeftUp was).ports, flow := (s.tellLeftUp was).flow } := by
  unfold State.tellLeftUp
  split
  · exact changeNotice_frame s
  · rfl

theorem abandonTraffic_frame (l : LinkId) (was : LinkState) :
    s.abandonTraffic l was =
      { s with ports := (s.abandonTraffic l was).ports, flow := (s.abandonTraffic l was).flow,
               notice := (s.abandonTraffic l was).notice, elementCounters := (s.abandonTraffic l was).elementCounters } := by
  unfold State.abandonTraffic
  split
  · rw [requestFlush_frame, emptyControl_frame]
  · rfl

theorem disableNow_frame (l : LinkId) :
    s.disableNow l =
      { s with ports := (s.disableNow l).ports, flow := (s.disableNow l).flow, notice := (s.disableNow l).notice,
               elementCounters := (s.disableNow l).elementCounters } := by
  unfold State.disableNow
  dsimp only
  rw [tellLeftUp_frame, abandonTraffic_frame]
  rfl

theorem endDrain_frame (l : LinkId) :
    s.endDrain l =
      { s with ports := (s.endDrain l).ports, elementCounters := (s.endDrain l).elementCounters,
               notice := (s.endDrain l).notice } := by
  unfold State.endDrain
  rw [emptyControl_frame]
  rfl

theorem tellQueuesEmpty_frame (l : LinkId) :
    s.tellQueuesEmpty l =
      { s with ports := (s.tellQueuesEmpty l).ports, elementCounters := (s.tellQueuesEmpty l).elementCounters,
               notice := (s.tellQueuesEmpty l).notice } := by
  unfold State.tellQueuesEmpty
  split
  · exact endDrain_frame s l
  · rfl

theorem disableDrain_frame (l : LinkId) :
    s.disableDrain l =
      { s with ports := (s.disableDrain l).ports, flow := (s.disableDrain l).flow, notice := (s.disableDrain l).notice,
               elementCounters := (s.disableDrain l).elementCounters } := by
  unfold State.disableDrain
  split
  · dsimp only
    rw [tellQueuesEmpty_frame, changeNotice_frame]
    rfl
  · rfl
  all_goals exact disableNow_frame s l

theorem enterFault_frame (l : LinkId) (cause : FaultCause) :
    s.enterFault l cause =
      { s with ports := (s.enterFault l cause).ports, flow := (s.enterFault l cause).flow,
               notice := (s.enterFault l cause).notice, elementCounters := (s.enterFault l cause).elementCounters } := by
  unfold State.enterFault
  dsimp only
  rw [latchLink_frame, tellLeftUp_frame, abandonTraffic_frame]
  rfl

theorem compareRuns_frame (l : LinkId) :
    s.compareRuns l =
      { s with ports := (s.compareRuns l).ports, flow := (s.compareRuns l).flow, notice := (s.compareRuns l).notice,
               elementCounters := (s.compareRuns l).elementCounters } := by
  unfold State.compareRuns
  dsimp only
  split
  · exact enterFault_frame s l _
  · split
    · split
      · rfl
      · rw [enterUp_frame]
    · rfl

theorem report_frame (l : LinkId) (r : Report) :
    s.report l r =
      { s with ports := (s.report l r).ports, flow := (s.report l r).flow, notice := (s.report l r).notice,
               elementCounters := (s.report l r).elementCounters } := by
  unfold State.report
  split
  · rw [compareRuns_frame]; rfl
  · dsimp only
    split
    · rw [enterFault_frame]; rfl
    · rfl
  · dsimp only
    split
    · rw [enterFault_frame]; rfl
    · rfl
  all_goals rfl

/-! ### Routes, commits and epochs (R52, R57, R63, R77, R82, R86, R152) -/

theorem reportFailing_frame :
    s.reportFailing = { s with notice := s.reportFailing.notice, elementCounters := s.reportFailing.elementCounters } := rfl

theorem markDest_frame (d : Dcn) :
    s.markDest d =
      { s with routes := { s.routes with destBad := s.routes.destBad.set d true }
               notice := (s.markDest d).notice, elementCounters := (s.markDest d).elementCounters } := rfl

theorem markGroup_frame (g : GroupId) :
    s.markGroup g =
      { s with routes := { s.routes with groupBad := s.routes.groupBad.set g true }
               notice := (s.markGroup g).notice, elementCounters := (s.markGroup g).elementCounters } := rfl

theorem advancePointer_frame (d : Dcn) :
    s.advancePointer d = { s with routes := { s.routes with pointer := (s.advancePointer d).routes.pointer } } := by
  unfold State.advancePointer
  split <;> rfl

theorem endCommit_frame (r : CommitRequest) (o : CommitOutcome) (e : Half) :
    s.endCommit r o e =
      { s with commit := { s.commit with state := .idle, record := some { request := r, outcome := o, epoch := e } }
               notice := (s.endCommit r o e).notice } := by
  unfold State.endCommit State.latchOutcome
  split <;> rfl

theorem fire_frame (r : CommitRequest) (e : Half) :
    s.fire r e =
      { s with routes := s.routes.fire r.stage, ports := (s.fire r e).ports, flow := (s.fire r e).flow,
               commit := { s.commit with state := .idle, record := some { request := r, outcome := .done, epoch := e } }
               notice := (s.fire r e).notice } := by
  unfold State.fire
  rw [changeNotice_frame, endCommit_frame]
  rfl

theorem scrubOne_frame :
    s.scrubOne =
      { s with routes := { s.routes with destBad := s.scrubOne.routes.destBad, groupBad := s.scrubOne.routes.groupBad }
               commit := { s.commit with scrub := nextScrub s.commit.scrub }
               notice := s.scrubOne.notice, elementCounters := s.scrubOne.elementCounters } := by
  unfold State.scrubOne State.visit
  dsimp only
  split
  · split
    · split <;> rfl
    · split <;> rfl
  · rfl

theorem boundary_frame (carried : Option Half) (sync : SyncState) (missRun : Nat) (lost : Bool) :
    s.boundary carried sync missRun lost =
      { s with ports := s.ports.map (fun p => { p with boundaries := p.boundaries + 1 })
               commit := { s.commit with
                 boundaries := s.commit.boundaries ++ [{ epoch := s.epoch.nextCount carried, lost := lost }] }
               flow := { s.flow with boundaries := s.flow.boundaries + 1 }
               epoch := s.epoch.atBoundary carried sync missRun s.periodWritten s.tolWritten
               notice := (s.boundary carried sync missRun lost).notice } := by
  unfold State.boundary State.deliver
  dsimp only
  split <;> rfl

/-! ### Responses (R138, R167) -/

theorem respond_frame (r : Request) (status : Status) (data : List Byte) :
    s.respond r status data =
      { s with ports := (s.respond r status data).ports, elementCounters := (s.respond r status data).elementCounters } := by
  unfold State.respond
  split <;> rfl

end Sys2Proof.Machine
end

