-- ==== Sys2Proof/Laws/Ops.lean ====
section
/-! SUPPORT. What each shared operation does, said once: reset, counting, latching, change notices, XOFF, the threshold, the
slots of the buffer and the queues. -/

namespace Sys2Proof.Machine

/-! ## Acting and idling -/

theorem act_run {s : State} (f : State → State) (h : s.inReset = false) : act f s = .next (f s) := by simp [act, h]

theorem act_held {s : State} (f : State → State) (h : s.inReset = true) : act f s = .next s := by simp [act, h]

theorem act_next (f : State → State) (s : State) : ∃ t, act f s = .next t := ⟨_, rfl⟩

theorem step_cons (c : Instr) (rest : List Instr) (s : State) :
    step { s with pending := c :: rest } = exec c { s with pending := rest } := rfl

theorem step_nil {s : State} (h : s.pending = []) : step s = idleStep s := by simp [step, h]

/-- One link after the reset event (R191, R192). -/
theorem elementReset_port (s : State) (bootSel : Bool) (id : BitVec 6) (l : LinkId) :
    (s.elementReset bootSel id).port l =
      if bootSel then (s.port l).elementReset else (s.port l).elementReset.toBlank 256 := by
  cases bootSel
  · simp [State.elementReset, State.enableAll, State.mapPorts, State.port]
    rfl
  · simp [State.elementReset, State.port]

/-! ## Counting (R189) -/

theorem countUp_limit {w : Nat} : countUp (BitVec.allOnes w) = BitVec.allOnes w := by simp [countUp]

theorem countUp_toNat {w : Nat} {x : BitVec w} (h : x ≠ BitVec.allOnes w) : (countUp x).toNat = x.toNat + 1 := by
  have hx : x.toNat ≠ 2 ^ w - 1 := fun e => h (BitVec.eq_of_toNat_eq (by simp [e]))
  have := x.isLt
  simp only [countUp, h, if_false, BitVec.toNat_add]
  rcases w with _ | w
  · omega
  · rw [show BitVec.toNat (1 : BitVec (w + 1)) = 1 by simp, Nat.mod_eq_of_lt (by omega)]

theorem count_self (p : Port) (k : LinkCounter) : (p.count k).counters[k.index] = countUp p.counters[k.index] := by
  simp [Port.count]

theorem count_ne (p : Port) {j k : LinkCounter} (h : j.index ≠ k.index) :
    (p.count k).counters[j.index] = p.counters[j.index] := by
  have : k.index.val ≠ j.index.val := fun e => h (Fin.ext e.symm)
  simp [Port.count, this]

/-! ## Flags (R181, R184) -/

theorem setBitAt_self {w : Nat} (x : BitVec w) {i : Nat} (h : i < w) : (setBitAt x i).getLsbD i = true := by
  simp [setBitAt, h]

theorem setBitAt_ne {w : Nat} (x : BitVec w) {i j : Nat} (h : j ≠ i) : (setBitAt x i).getLsbD j = x.getLsbD j := by
  have : i ≠ j := fun e => h e.symm
  simp [setBitAt, BitVec.getLsbD_twoPow, this]

theorem elementFlag_latch_self (s : State) (f : ElementFlag) : (s.latch f).elementFlag f = true := by
  cases f <;> exact setBitAt_self _ (by decide)

theorem elementFlag_latch_ne (s : State) {f g : ElementFlag} (h : g.bit ≠ f.bit) :
    (s.latch f).elementFlag g = s.elementFlag g := setBitAt_ne _ h

/-- R184: latching makes a notice pending when the flag was clear and its mask is clear. -/
theorem latch_makesPending (s : State) (f : ElementFlag) :
    (s.latch f).notice.pending =
      (s.notice.pending || (!s.elementFlag f && !s.notice.elementMasks.getLsbD f.bit)) := rfl

theorem linkFlag_latchLink_self (s : State) (l : LinkId) (f : LinkFlag) : (s.latchLink l f).linkFlag l f = true := by
  have h : f.bit < 5 := by cases f <;> decide
  unfold State.latchLink State.linkFlag
  dsimp only
  split <;> simp [setBitAt_self _ h]

theorem latchLink_port_ne (s : State) {l m : LinkId} (h : m ≠ l) (f : LinkFlag) : (s.latchLink l f).port m = s.port m := by
  unfold State.latchLink
  dsimp only
  split <;> simp [port_modPort_ne h]

/-! ## Change notices (R120, R121) -/

theorem markFlowDue_port (s : State) (m : LinkId) : s.markFlowDue.port m = (s.port m).markFlowDue :=
  port_mapPorts s Port.markFlowDue m

/-- A change notice moves nothing of a link but its FLOW-due flag. -/
theorem changeNotice_port (s : State) (m : LinkId) :
    s.changeNotice.port m = if s.flow.gapTimer = none then (s.port m).markFlowDue else s.port m := by
  unfold State.changeNotice
  split <;> rename_i h
  · simp [h, markFlowDue_port]
  · simp [h]; rfl

theorem markFlowDue_unit (p : Port) : p.markFlowDue.unit = p.unit := by unfold Port.markFlowDue; split <;> rfl

theorem markFlowDue_queues (p : Port) : p.markFlowDue.queues = p.queues := by unfold Port.markFlowDue; split <;> rfl

theorem markFlowDue_credit (p : Port) : p.markFlowDue.credit = p.credit := by unfold Port.markFlowDue; split <;> rfl

theorem markFlowDue_sched (p : Port) : p.markFlowDue.sched = p.sched := by unfold Port.markFlowDue; split <;> rfl

theorem markFlowDue_map (p : Port) : p.markFlowDue.map = p.map := by unfold Port.markFlowDue; split <;> rfl

theorem changeNotice_unit (s : State) (m : LinkId) : (s.changeNotice.port m).unit = (s.port m).unit := by
  rw [changeNotice_port]; split <;> simp [markFlowDue_unit]

theorem changeNotice_queues (s : State) (m : LinkId) : (s.changeNotice.port m).queues = (s.port m).queues := by
  rw [changeNotice_port]; split <;> simp [markFlowDue_queues]

theorem changeNotice_credit (s : State) (m : LinkId) : (s.changeNotice.port m).credit = (s.port m).credit := by
  rw [changeNotice_port]; split <;> simp [markFlowDue_credit]

theorem changeNotice_sched (s : State) (m : LinkId) : (s.changeNotice.port m).sched = (s.port m).sched := by
  rw [changeNotice_port]; split <;> simp [markFlowDue_sched]

theorem changeNotice_map (s : State) (m : LinkId) : (s.changeNotice.port m).map = (s.port m).map := by
  rw [changeNotice_port]; split <;> simp [markFlowDue_map]

/-! ## XOFF (R106) -/

/-- Setting an XOFF flag leaves every queue as it was. -/
theorem setXoff_lists (s : State) (l m : LinkId) (c : ClassId) (b : Bool) :
    ((s.setXoff l c b).port m).queues.lists = (s.port m).queues.lists := by
  unfold State.setXoff
  split
  · rfl
  · rw [changeNotice_queues]
    by_cases h : m = l
    · subst h; simp
    · rw [port_modPort_ne h]

theorem setXoff_self (s : State) (l : LinkId) (c : ClassId) (b : Bool) :
    ((s.setXoff l c b).port l).queues.xoff[c] = b := by
  unfold State.setXoff
  split
  · assumption
  · simp [changeNotice_queues]

theorem setXoff_unit (s : State) (l m : LinkId) (c : ClassId) (b : Bool) :
    ((s.setXoff l c b).port m).unit = (s.port m).unit := by
  unfold State.setXoff
  split
  · rfl
  · rw [changeNotice_unit]
    by_cases h : m = l
    · subst h; simp
    · rw [port_modPort_ne h]

/-! ## Threshold (R95) -/

theorem threshold_le (free alpha : Nat) : threshold free alpha ≤ 1024 := Nat.min_le_left _ _

theorem two_le_threshold (free alpha : Nat) : 2 ≤ threshold free alpha := by
  unfold threshold Config.queueBound
  omega

/-! ## Slots (R90, R91) -/

theorem mem_insertSlot (x y : Slot) (slots : List Slot) : y ∈ insertSlot x slots ↔ y = x ∨ y ∈ slots := by
  induction slots with
  | nil => simp [insertSlot]
  | cons z rest ih =>
    unfold insertSlot
    split
    · simp
    · simp only [List.mem_cons, ih]; tauto

theorem insertSlot_length (x : Slot) (slots : List Slot) : (insertSlot x slots).length = slots.length + 1 := by
  induction slots with
  | nil => rfl
  | cons z rest ih => unfold insertSlot; split <;> simp [ih]

/-- The lowest free number is at least `k` and stands in no slot of a rising list whose numbers are at least `k`. -/
theorem lowestFree_spec (slots : List Slot) :
    ∀ k, (∀ x ∈ slots, k ≤ x.id) → (slots.map (·.id)).Pairwise (· < ·) →
      k ≤ lowestFree k slots ∧ lowestFree k slots ≤ k + slots.length ∧ ∀ x ∈ slots, x.id ≠ lowestFree k slots := by
  induction slots with
  | nil => intro k _ _; simp [lowestFree]
  | cons y rest ih =>
    intro k hk hs
    simp only [List.map_cons, List.pairwise_cons, List.mem_map, forall_exists_index, and_imp,
      forall_apply_eq_imp_iff₂] at hs
    unfold lowestFree
    split
    · rename_i e
      obtain ⟨h1, h2, h3⟩ := ih (k + 1) (fun x hx => by have := hs.1 x hx; omega) hs.2
      refine ⟨by omega, by simp only [List.length_cons]; omega, ?_⟩
      intro x hx
      rcases List.mem_cons.1 hx with rfl | hx
      · omega
      · exact h3 x hx
    · rename_i e
      have hy : k < y.id := lt_of_le_of_ne (hk y (by simp)) (Ne.symm e)
      refine ⟨le_rfl, by omega, ?_⟩
      intro x hx
      rcases List.mem_cons.1 hx with rfl | hx
      · omega
      · have := hs.1 x hx; omega

theorem insertSlot_sorted (x : Slot) (slots : List Slot) (hs : (slots.map (·.id)).Pairwise (· < ·))
    (hx : ∀ y ∈ slots, y.id ≠ x.id) : ((insertSlot x slots).map (·.id)).Pairwise (· < ·) := by
  induction slots with
  | nil => simp [insertSlot]
  | cons y rest ih =>
    simp only [List.map_cons, List.pairwise_cons, List.mem_map, forall_exists_index, and_imp,
      forall_apply_eq_imp_iff₂] at hs
    unfold insertSlot
    split
    · rename_i hlt
      simp only [List.map_cons, List.pairwise_cons, List.mem_map, List.mem_cons, forall_exists_index, and_imp,
        forall_apply_eq_imp_iff₂, forall_eq_or_imp]
      exact ⟨⟨hlt, fun z hz => by have := hs.1 z hz; omega⟩, hs⟩
    · rename_i hge
      have hne := hx y (by simp)
      simp only [List.map_cons, List.pairwise_cons, List.mem_map, forall_exists_index, and_imp,
        forall_apply_eq_imp_iff₂]
      refine ⟨fun z hz => ?_, ih hs.2 fun z hz => hx z (by simp [hz])⟩
      rcases (mem_insertSlot x z rest).1 hz with rfl | hz
      · omega
      · exact hs.1 z hz

/-! ## The test pattern (R12) -/

theorem patternPush_getLsbD (g : BitVec 31) (x : Bool) {i : Nat} (hi : i < 31) :
    (patternPush g x).getLsbD i = if i = 0 then x else g.getLsbD (i - 1) := by
  unfold patternPush
  rcases i with _ | i
  · cases x <;> simp
  · cases x <;> simp [hi] <;> exact (BitVec.getLsbD_eq_getElem _).symm

theorem patternAdvance_succ (n : Nat) (g : BitVec 31) :
    patternAdvance (n + 1) g = patternPush (patternAdvance n g) (patternBit (patternAdvance n g)) := by
  induction n generalizing g with
  | zero => rfl
  | succ n ih => rw [patternAdvance, ih]; rfl

/-- The oldest bit after n + k bits is the k-th oldest after n. -/
theorem patternAdvance_shift (n : Nat) (g : BitVec 31) {k : Nat} (hk : k ≤ 30) :
    (patternAdvance (n + k) g).getLsbD 30 = (patternAdvance n g).getLsbD (30 - k) := by
  induction k generalizing n with
  | zero => rfl
  | succ k ih =>
    rw [show n + (k + 1) = n + 1 + k by omega, ih (n + 1) (by omega), patternAdvance_succ,
      patternPush_getLsbD _ _ (by omega), if_neg (by omega)]
    congr 1

/-! ## Control queues (R138) -/

theorem takesControl_iff (p : Port) :
    p.takesControl = true ↔ p.unit.state.inService = true ∧ p.sched.control.length < 4 := by
  rw [Port.takesControl, Bool.and_eq_true, decide_eq_true_iff]
  rfl

end Sys2Proof.Machine
end

