-- ==== Sys2Proof/Tests/Slice0.lean ====
section
/-! SUPPORT. Tests: the ill-formed commands that the check refuses, the spec's worked values, and for every statement a concrete
state and operands that meet its hypotheses, clause by clause. -/

namespace Sys2Proof.Tests

open Sys2Proof Sys2Proof.Machine

-- The theorems are checked one after another: each is small, and together they then need the memory of one.
set_option Elab.async false
set_option maxRecDepth 100000

/-! ## Helpers -/

/-- The element out of reset with identity 5, boot over and every link in OFF. -/
def quiet : State := State.afterReset false 5 false []

/-- Link 0 of the quiet element changed. -/
def with0 (f : Port → Port) : State := quiet.modPort 0 f

/-- Link 0 in a state, in lock. -/
def inState (st : LinkState) : State := quiet.modUnit 0 fun u => { u with state := st, signal := true, aligned := true }

/-- The state a command leaves. -/
def after (c : Instr) (s : State) : State :=
  match exec c s with
  | .next t => t
  | .fault _ | .refused _ => s

/-- A header of a type with its check. -/
def headerOf (type : BitVec 4) (cls : BitVec 2) (dest : BitVec 10) : Header :=
  let h : Header := { type := type, cls := cls, dest := dest, context := 0, hchk := 0 }
  { h with hchk := crc8 h.bytes7 }

/-- A cell of a type with both checks good. -/
def cellOf (type : BitVec 4) (cls : BitVec 2) (dest : BitVec 10) (body : List Byte) : Cell :=
  { header := headerOf type cls dest, payload := checkedPayload body }

/-- The same cell with a bad header check. -/
def damage (c : Cell) : Cell := { c with header := { c.header with hchk := c.header.hchk + 1 } }

/-- The same cell with a bad payload check. -/
def spoil (c : Cell) : Cell := { c with payload := c.payload.set 62 (c.byte 62 + 1) }

/-- A state with one request waiting, from link 0, with COMMAND and what follows it. -/
def asking (body : List Byte) (s : State) : State :=
  { s with agent := { s.agent with requests := [{ link := 0, body := bytesVec 62 ([255, 9] ++ body), context := 0xAB }] } }

/-- The fields of the request that `asking` puts in the queue. -/
def fieldsOf (body : List Byte) : Fields :=
  Request.fields { link := 0, body := bytesVec 62 ([255, 9] ++ body), context := 0xAB }

/-- Destination entry contents with these members. -/
def members (l : List Byte) : DestContents := { valid := true, count := natByte l.length, members := bytesVec 4 l }

/-- ACTIVE Destination entry d, intact. -/
def routed (d : Dcn) (l : List Byte) (s : State) : State :=
  s.modRoutes fun r => r.putDest .active d { contents := members l, intact := true }

/-- A link in UP. -/
def up (l : LinkId) (s : State) : State := s.modUnit l fun u => { u with state := .up, signal := true, aligned := true }

/-- Link 0 in a state with one cell of class 2 in its queue, on slot 0. -/
def holding (st : LinkState) (cell : Cell) : State :=
  let s := (inState st).modPort 0 fun p => { p with queues := { p.queues with lists := p.queues.lists.set 2 [0] } }
  { s with buffer := { slots := [{ id := 0, cell := cell, refs := 1 }], free := 4095, freeDesc := 8191, congested := false } }

/-- A commit in CHECKING at a position. -/
def walking (q : CommitRequest) (n : Nat) (e : Option RoutePos) : State :=
  { quiet with commit := { quiet.commit with state := .checking q n e } }

/-- An ARMED commit. -/
def armed (q : CommitRequest) : State := { quiet with commit := { quiet.commit with state := .armed q } }

/-! ## Ill-formed commands -/

theorem test_wellFormed_dataU : (Instr.dataUReceived 0 (cellOf 2 0 0 [])).wellFormed = false := by decide +kernel
theorem test_wellFormed_dataM : (Instr.dataMReceived 0 (cellOf 1 0 0 [])).wellFormed = false := by decide +kernel
theorem test_wellFormed_flow : (Instr.flowReceived 0 (damage (cellOf 3 0 0 []))).wellFormed = false := by decide +kernel
theorem test_wellFormed_mgmt : (Instr.mgmtReceived 0 (cellOf 3 0 0 [])).wellFormed = false := by decide +kernel
theorem test_wellFormed_sync : (Instr.syncReceived 0 (cellOf 6 0 0 []) 0).wellFormed = false := by decide +kernel
theorem test_wellFormed_idle : (Instr.idleReceived 0 (cellOf 8 0 0 [])).wellFormed = false := by decide +kernel
theorem test_wellFormed_marker : (Instr.markerReceived 0 (cellOf 7 0 0 [])).wellFormed = false := by decide +kernel
theorem test_wellFormed_test : (Instr.testReceived 0 (cellOf 0 0 0 [])).wellFormed = false := by decide +kernel
theorem test_wellFormed_damaged : (Instr.damagedCellReceived 0 (cellOf 1 0 0 [])).wellFormed = false := by decide +kernel
theorem test_wellFormed_unknown : (Instr.unknownTypeReceived 0 (cellOf 7 0 0 [])).wellFormed = false := by decide +kernel
theorem test_wellFormed_transfer :
    (Instr.busTransferEnd (.success [])).wellFormed = false ∧
    (Instr.busTransferEnd (.success (List.replicate 33 0))).wellFormed = false := by decide +kernel

theorem test_wellFormed_good :
    (Instr.dataUReceived 0 (cellOf 1 0 0 [])).wellFormed = true ∧
    (Instr.unknownTypeReceived 0 (cellOf 15 0 0 [])).wellFormed = true ∧
    (Instr.busTransferEnd (.success (List.replicate 32 0))).wellFormed = true := by decide +kernel

/-! ## Worked values of the spec -/

/-- R5: DATA_U of class 0 to DCN 5 with CONTEXT 0. -/
theorem test_hchk : (headerOf 1 0 5).bytes7 = [0x10, 0x05, 0, 0, 0, 0, 0] ∧ (headerOf 1 0 5).hchk = 0x5E := by decide +kernel

theorem test_crc16_check : crc16 [0x31, 0x32, 0x33, 0x34, 0x35, 0x36, 0x37, 0x38, 0x39] = 0x29B1 := by decide +kernel

theorem test_crc32_check : crc32 [0x31, 0x32, 0x33, 0x34, 0x35, 0x36, 0x37, 0x38, 0x39] = 0xFC891918 := by decide +kernel

/-- 05, Worked example: the threshold. -/
theorem test_threshold :
    [5, 4, 3, 2].map (threshold 700) = [1024, 1024, 700, 350] ∧ threshold 699 2 = 349 ∧ threshold 13 2 = 6 ∧ threshold 3 2 = 2 ∧
    threshold 1 2 = 2 := by decide +kernel

/-- 06, Worked example: map bits. -/
def mapExample : State :=
  let s := up 10 (up 17 (up 3 (routed 3 [10] (routed 2 [50] (routed 0 [3, 17] quiet)))))
  let t := s.modPort 3 fun p => { p with queues := { p.queues with xoff := p.queues.xoff.set 2 true } }
  (t.modUnit 50 fun u => { u with state := .draining }).modRoutes fun r => { r with destBad := r.destBad.set 3 true }

theorem test_map_bytes : bytesOfBits 2 mapExample.mapBits = [0x2F, 0xFF] ∧
    bytesOfBits 2 ({ mapExample with buffer := { mapExample.buffer with congested := true } } : State).mapBits = [0x7F, 0xFF] := by
  decide +kernel

/-- 06, Worked example: credit on one link and class: G 42, S 10, CREDIT_MAX 64. -/
theorem test_grants :
    [42, 74, 75, 200, 5].map
      (fun g => (with0 fun p => { p with credit := { p.credit with sent := p.credit.sent.set 1 10 } }).port 0 |>.acceptsGrant 1 g) =
    [true, true, false, false, false] := by decide +kernel

/-- 05, Worked example: duplicate targets on one queue. -/
theorem test_judge_duplicates :
    ({ (with0 fun p => { p with queues := { p.queues with lists := p.queues.lists.set 2 (List.replicate 39 7) } }) with
      buffer := { slots := [], free := 40, freeDesc := 500, congested := false } } : State).judgeTargets 2 [10, 0, 0] =
    { admitted := [10, 0], refused := [(0, .queueLimit)] } := by decide +kernel

/-- 11, The boot image: the shortest well-formed image is one CLOSE_CONFIG record. -/
def shortImage : List Byte :=
  let x : List Byte := [1, 0, 0, 16, 0, 1, 0x40, 0, 0, 0, 0, 0]
  x ++ bytes32 (crc32 x)

theorem test_shortest_boot :
    let s := after (.busTransferEnd (.success shortImage)) State.reset
    let t := after (.busTransferEnd (.success shortImage)) s
    s.boot.state = .applying ∧ s.boot.length = 16 ∧ t.boot.state = .done ∧ t.boot.taken = 1 ∧ t.agent.phase = .run := by
  decide +kernel

theorem test_commands_of_the_word : decodeTableWord 8 0 = none ∧ (quiet.withFetchWord 8 0).pending = [] := by decide +kernel

/-! ## Hypotheses met: commands, resets -/

theorem test_meets_StepOnEmptyQueue :
    quiet.pending = [] ∧ ({ quiet with inReset := true } : State).inReset = true ∧ quiet.inReset = false ∧ quiet.due = none ∧
    ({ quiet with epoch := { quiet.epoch with window := 127 } } : State).due = none ∧
    ({ quiet with epoch := { quiet.epoch with window := 128 } } : State).due = some .timerBoundary := by decide +kernel

theorem test_meets_EveryCommandAnswersNext :
    (∀ (b : Bool) (id : BitVec 6), Instr.refresh ≠ .elementReset b id) ∧ Instr.refresh ≠ .resetNLow :=
  ⟨fun _ _ h => Instr.noConfusion h, by decide⟩

theorem test_meets_ResetNLowHoldsTheElement :
    (∀ (b : Bool) (id : BitVec 6), Instr.epochOutFall ≠ .elementReset b id) ∧
    (∀ e, Instr.epochOutFall ≠ .epochInRisingEdge e) ∧ Instr.epochOutFall ≠ .epochInFallingEdge ∧
    (∀ l, Instr.epochOutFall ≠ .transmitReady l) ∧
    (after (.epochInRisingEdge 9) (after .resetNLow quiet)).epoch.pinHigh = true ∧
    (after .epochInFallingEdge (after .resetNLow (after (.epochInRisingEdge 9) quiet))).epoch.pinHigh = false :=
  ⟨fun _ _ h => Instr.noConfusion h, fun _ h => Instr.noConfusion h, by decide, fun _ h => Instr.noConfusion h,
    by decide +kernel, by decide +kernel⟩

/-- R135, R191: a cell in a transmitter outlives RESET_N going low and the reset event; a readiness in reset ends it. -/
theorem test_reset_keeps_the_cell :
    let s := with0 fun p => { p with transmitter := some markerCell }
    let t := after .resetNLow s
    (t.port 0).transmitter = some markerCell ∧ ((after (.elementReset false 5) t).port 0).transmitter = some markerCell ∧
    ((after (.elementReset true 5) s).port 0).transmitter = some markerCell ∧
    ((after (.transmitReady 0) t).port 0).transmitter = none := by decide +kernel

/-- SOFT_RESET waiting in a state of link 0. -/
def softly (st : LinkState) : State := asking [0x41] (inState st)

theorem test_meets_SoftResetValues :
    (softly .off).inReset = false ∧ (softly .off).agent.requests.length = 1 ∧ (fieldsOf [0x41]).command = 0x41 ∧
    ((softly .off).port 0).unit.state = .off ∧ ((softly .test).port 0).unit.state = .test ∧
    ((softly .up).port 0).unit.state ≠ .off ∧ ((softly .up).port 0).unit.state ≠ .test ∧
    ((after .softReset (softly .up)).port 0).unit.state = .blank ∧ ((after .softReset (softly .test)).port 0).unit.state = .off := by
  decide +kernel

theorem test_meets_BothResetsValues :
    (softly .up).inReset = false ∧ (softly .up).agent.requests.head?.any (fun r => r.fields.command == 0x41) = true ∧
    (after .softReset (softly .up)).notice.resetKind = .soft ∧ (after .softReset (softly .up)).notice.flags = 1 := by
  decide +kernel

/-! ## Hypotheses met: fabric links -/

/-- Link 0 in a state with these conditions. -/
def conditions (st : LinkState) (signal aligned : Bool) : State :=
  (inState st).modUnit 0 fun u => { u with signal := signal, aligned := aligned }

theorem test_meets_LockEventsAndLinkTimers :
    (inState .qualify).inReset = false ∧ ((inState .qualify).port 0).unit.state = .qualify ∧
    ((inState .up).port 0).unit.lossTimer = none ∧ ((inState .draining).port 0).unit.state = .draining ∧
    ((after (.signalLost 0) (inState .up)).port 0).unit.lossTimer = some 10 ∧
    ((after (.alignmentLost 0) (inState .qualify)).port 0).unit.state = .seek ∧
    ((conditions .seek false true).port 0).unit.signal = false ∧ ((conditions .seek false true).port 0).unit.aligned = true ∧
    ((after (.signalRestored 0) (conditions .seek false true)).port 0).unit.state = .qualify ∧
    ((conditions .seek true false).port 0).unit.signal = true ∧ ((conditions .seek true false).port 0).unit.aligned = false ∧
    ((after (.alignmentGained 0) (conditions .seek true false)).port 0).unit.state = .qualify ∧
    ((conditions .off false true).port 0).unit.state = .off ∧ ((conditions .seek false false).port 0).unit.aligned = false := by
  decide +kernel

/-- Link 0 in BLANK with its timer at its expiry. -/
def blanked (signal : Bool) : State := (conditions .blank signal true).modUnit 0 fun u => { u with blankTimer := some 0 }

/-- Link 0 in UP with its loss timer at its expiry. -/
def losing (signal : Bool) : State := (conditions .up signal false).modUnit 0 fun u => { u with lossTimer := some 0 }

theorem test_meets_LinkTimerExpiries :
    ((blanked true).port 0).unit.state = .blank ∧ ((blanked true).port 0).unit.blankTimer ≠ none ∧
    ((after (.blankTimerExpiry 0) (blanked true)).port 0).unit.state = .qualify ∧
    ((after (.blankTimerExpiry 0) (blanked false)).port 0).unit.state = .seek ∧
    ((losing true).port 0).unit.state = .up ∧ ((losing true).port 0).unit.lossTimer ≠ none ∧
    ((after (.lossTimerExpiry 0) (losing true)).port 0).unit.lastFault = some { cause := .alignLost, epoch := 0 } ∧
    ((after (.lossTimerExpiry 0) (losing false)).port 0).unit.lastFault = some { cause := .los, epoch := 0 } := by decide +kernel

theorem test_meets_EntriesToFaultAndUp :
    ((inState .up).port 0).unit.state.inService = true ∧ ((inState .up).port 0).queues.flushing = false ∧
    ((inState .qualify).port 0).unit.state.inService = false ∧ ((inState .draining).port 0).unit.state ≠ .up ∧
    (1 : LinkId) ≠ 0 ∧ quiet.flow.gapTimer = none ∧ quiet.changeNotice.flow.gapTimer ≠ none ∧
    ((holding .up (cellOf 1 2 0 [])).enterFault 0 .los |>.port 0).queues.flushing = true := by decide +kernel

/-- Link 0 in QUALIFY with its runs. -/
def runs (qual mismatch : Nat) (note flushing : Bool) : State :=
  (inState .qualify).modPort 0 fun p =>
    { p with unit := { p.unit with qualRun := qual, mismatchRun := mismatch, qualified := note }
             queues := { p.queues with flushing := flushing } }

theorem test_meets_ReportInQualify :
    ((runs 15 0 false false).port 0).unit.state = .qualify ∧
    (((runs 0 15 false false).report 0 (.idle false)).port 0).unit.lastFault = some { cause := .miswire, epoch := 0 } ∧
    (((runs 15 0 false false).report 0 (.idle true)).port 0).unit.state = .up ∧
    (((runs 15 0 false true).report 0 (.idle true)).port 0).unit.qualified = true ∧
    (((runs 14 0 false false).report 0 (.idle true)).port 0).unit.qualRun = 15 ∧
    (((runs 15 0 true true).report 0 (.idle true)).port 0).unit.qualRun = 15 := by decide +kernel

/-- Link 0 in UP with its runs and its error window. -/
def serving (markers errors mismatch : Nat) (limit : Byte) : State :=
  (inState .up).modPort 0 fun p =>
    { p with unit := { p.unit with markerRun := markers, errorCount := errors, mismatchRun := mismatch }
             map := { p.map with errorLimit := limit } }

theorem test_meets_ReportInService :
    ((serving 3 0 0 16).port 0).unit.state = .up ∧
    (((serving 3 0 0 16).report 0 .marker).port 0).unit.lastFault = some { cause := .remote, epoch := 0 } ∧
    (((serving 2 0 0 16).report 0 .marker).port 0).unit.markerRun = 3 ∧
    (((serving 2 16 0 16).report 0 .checkFailed).port 0).unit.lastFault = some { cause := .errorRate, epoch := 0 } ∧
    (((serving 2 15 0 16).report 0 .checkFailed).port 0).unit.errorCount = 16 ∧
    (((serving 2 99 0 0).report 0 .checkFailed).port 0).unit.state = .up ∧
    (((serving 2 0 15 16).report 0 (.idle false)).port 0).unit.lastFault = some { cause := .miswire, epoch := 0 } ∧
    (((serving 2 0 15 16).report 0 (.idle true)).port 0).unit.mismatchRun = 0 := by decide +kernel

/-- Link 0 in a state with one boundary delivered. -/
def atBoundary (st : LinkState) (f : LinkUnit → LinkUnit) : State :=
  (inState st).modPort 0 fun p => { p with unit := f p.unit, boundaries := 1 }

theorem test_meets_BoundaryWorkOfLinks :
    ((atBoundary .up fun u => u).port 0).boundaries = 1 ∧
    ((after (.linkBoundaryWork 0) (atBoundary .up fun u => { u with upRising := true, upCount := 1023 })).port 0).unit.flapDue =
      true ∧
    ((after (.linkBoundaryWork 0) (atBoundary .up fun u => { u with upRising := true, upCount := 1022 })).port 0).unit.flapDue =
      false ∧
    ((after (.linkBoundaryWork 0) (atBoundary .up fun u => { u with errorCount := 3 })).port 0).unit.errorCount = 0 ∧
    ((after (.linkBoundaryWork 0) (atBoundary .draining fun u => u)).port 0).unit.drainCount = 1 ∧
    ((after (.linkBoundaryWork 0) (atBoundary .fault fun u => { u with holdDown := some 7 })).port 0).unit.holdDown = some 8 ∧
    ((after (.linkBoundaryWork 0) (atBoundary .seek fun u => u)).port 0).boundaries = 0 ∧
    ((after (.flapClear 0) (atBoundary .up fun u => { u with flapDue := true, flapCount := 2 })).port 0).unit.flapCount = 0 ∧
    ((after (.drainLimit 0) (atBoundary .draining fun u => { u with drainCount := 32 })).port 0).unit.state = .off ∧
    ((after (.drainLimit 0) (atBoundary .draining fun u => { u with drainCount := 31 })).port 0).unit.state = .draining ∧
    ((after (.holdDownEnd 0) (atBoundary .fault fun u => { u with holdDown := some 8, flapCount := 4 })).port 0).unit.state =
      .fault ∧
    ((after (.holdDownEnd 0) (atBoundary .fault fun u => { u with holdDown := some 8, flapCount := 3 })).port 0).unit.state =
      .blank := by decide +kernel

/-- Link 0 in TEST with its checker. -/
def checking (k : Checker) : State := (inState .test).modUnit 0 fun u => { u with checker := k }

theorem test_meets_TestChecker :
    ((checking .unseeded).port 0).unit.state = .test ∧ (cellOf 7 0 0 []).headerOk = true ∧ (cellOf 7 0 0 []).header.type = 7 ∧
    ((after (.testReceived 0 (cellOf 7 0 0 [])) (checking .unseeded)).port 0).unit.checker ≠ .unseeded ∧
    (cellOf 7 0 0 []).payload ≠ patternPayload (BitVec.allOnes 31) ∧
    ((after (.testReceived 0 (cellOf 7 0 0 [])) (checking (.tracking (BitVec.allOnes 31) 7))).port 0).unit.checker = .unseeded ∧
    ((after (.testReceived 0 (testCell (BitVec.allOnes 31))) (checking (.tracking (BitVec.allOnes 31) 6))).port 0).unit.checker =
      .tracking (patternAdvance 512 (BitVec.allOnes 31)) 0 ∧
    (damage (cellOf 7 0 0 [])).headerOk = false ∧
    ((after (.damagedCellReceived 0 (damage (cellOf 7 0 0 []))) (checking (.tracking 1 6))).port 0).testErrors = 1 := by
  decide +kernel

/-- Every generator has the sequence that `TestChecker` speaks of: the oldest bits it comes to hold. -/
theorem test_meets_TestChecker_sequence (g : BitVec 31) :
    (∀ i, i < 31 → (patternAdvance i g).getLsbD 30 = g.getLsbD (30 - i)) ∧
    ∀ n, (patternAdvance (n + 31) g).getLsbD 30 =
      ((patternAdvance (n + 3) g).getLsbD 30 != (patternAdvance n g).getLsbD 30) := by
  refine ⟨fun i hi => ?_, fun n => ?_⟩
  · have := patternAdvance_shift 0 g (show i ≤ 30 by omega)
    rwa [Nat.zero_add] at this
  · rw [show n + 31 = n + 1 + 30 by omega, patternAdvance_shift _ _ (le_refl _), patternAdvance_succ,
      patternPush_getLsbD _ _ (by omega), patternAdvance_shift n g (show 3 ≤ 30 by omega)]
    rfl

/-- R12, R46: from all ones the first 28 bits sent are 0 and the next three are 1, and the last 31 bits of the cell seed a checker that
predicts the next. -/
theorem test_pattern :
    (testCell (BitVec.allOnes 31)).payload.toList.take 4 = [0, 0, 0, 0x0E] ∧
    patternSeed (testCell (BitVec.allOnes 31)) = patternAdvance 512 (BitVec.allOnes 31) := by decide +kernel

/-! ## Hypotheses met: received cells -/

/-- Every list of bytes has the register sequence that `HeaderBytesAndChecks` speaks of, for every generator and preset. -/
theorem test_meets_HeaderBytesAndChecks {w : Nat} (poly init : BitVec w) (b : List Byte) : ∃ r : Nat → BitVec w, r 0 = init ∧
    ∀ i, i < 8 * b.length → r (i + 1) =
      (r i <<< 1) ^^^ (if (r i).msb != (byteAt b (i / 8)).getLsbD (7 - i % 8) then poly else 0) :=
  ⟨fun n => Nat.rec init
    (fun i x => (x <<< 1) ^^^ (if x.msb != (byteAt b (i / 8)).getLsbD (7 - i % 8) then poly else 0)) n, rfl, fun _ _ => rfl⟩

/-- The states in which `CellsByTypeInTheClassifier` leaves cells unexamined. -/
theorem test_meets_CellsByTypeInTheClassifier_unexamined :
    (inState .off).inReset = false ∧
    ([.off, .blank, .seek, .fault, .test].map fun st => ((inState st).port 0).unit.state) = [.off, .blank, .seek, .fault, .test] := by
  decide +kernel

theorem test_meets_CellsByTypeInTheClassifier :
    crc8 (damage (cellOf 0 0 0 [])).header.bytes7 ≠ (damage (cellOf 0 0 0 [])).header.hchk ∧
    crc8 (cellOf 8 0 0 []).header.bytes7 = (cellOf 8 0 0 []).header.hchk ∧ 8 ≤ (cellOf 8 0 0 []).header.type.toNat ∧
    ([1, 2, 3, 4, 5, 7].map fun t => (cellOf t 0 0 []).header.type) = [1, 2, 3, 4, 5, 7] ∧
    crc16 ((spoil (cellOf 3 0 0 [])).payload.toList.take 62) ≠
      half ((spoil (cellOf 3 0 0 [])).byte 62) ((spoil (cellOf 3 0 0 [])).byte 63) ∧
    crc16 ((cellOf 0 0 0 [1, 7, 0]).payload.toList.take 62) =
      half ((cellOf 0 0 0 [1, 7, 0]).byte 62) ((cellOf 0 0 0 [1, 7, 0]).byte 63) ∧
    (cellOf 0 0 0 [1, 7, 0]).byte 0 = 1 ∧ ((inState .up).port 0).map.expectId = 255 ∧ (cellOf 0 0 0 [2]).byte 0 ≠ 1 := by
  decide +kernel

/-- 01, Worked example: arrivals on one link, cells 1 to 4 in QUALIFY. -/
theorem test_arrivals_in_qualify :
    let s := after (.idleReceived 0 (cellOf 0 0 0 [1, 7, 0])) (inState .qualify)
    let t := after (.mgmtReceived 0 (cellOf 4 0 0 [])) s
    let u := after (.idleReceived 0 (spoil (cellOf 0 0 0 [1, 7, 0]))) t
    let v := after (.unknownTypeReceived 0 (cellOf 11 0 0 [])) u
    (s.port 0).unit.qualRun = 1 ∧ (t.port 0).unit.qualRun = 1 ∧ (u.port 0).unit.qualRun = 0 ∧
    (v.port 0).counters.toList.take 6 = [4, 0, 0, 1, 1, 1] := by decide +kernel

/-- 01, Worked example: arrivals on one link, cells 6 to 10 in UP. -/
theorem test_arrivals_in_up :
    let s := after (.dataUReceived 0 (cellOf 1 2 130 [])) (inState .up)
    let t := after (.damagedCellReceived 0 (damage (cellOf 3 0 0 []))) s
    let u := after (.markerReceived 0 (cellOf 6 0 0 [])) (after (.flowReceived 0 (cellOf 3 0 0 [])) t)
    let v := after (.testReceived 0 (cellOf 7 0 0 [])) u
    (v.port 0).counters.toList.take 7 = [5, 0, 1, 0, 0, 0, 1] ∧ (u.port 0).unit.markerRun = 1 ∧ (v.port 0).unit.markerRun = 0 := by
  decide +kernel

/-- Link 0 in UP, DCN 40 on links 3, 17, 22 and 50 (03, Worked example: spray across members), 17 of them live. -/
def spray : State := up 17 (up 0 (routed 40 [3, 17, 22, 50] quiet))

theorem test_meets_UnicastCells :
    spray.inReset = false ∧ (spray.port 0).unit.state = .up ∧
    crc8 (cellOf 1 1 40 []).header.bytes7 = (cellOf 1 1 40 []).header.hchk ∧ (cellOf 1 1 40 []).header.type = 1 ∧
    120 ≤ (cellOf 1 1 120 []).header.dest.toNat ∧ (cellOf 1 1 119 []).header.dest.toNat = (119 : Dcn).val ∧
    (spray.modRoutes fun r => { r with destBad := r.destBad.set 40 true }).routes.destBad[(40 : Dcn)] = true ∧
    (after (.storageUpset (.dest .active 40 destInvalid)) spray).routes.active.dest[(40 : Dcn)].intact = false ∧
    spray.routes.active.dest[(39 : Dcn)].contents.valid = false ∧ spray.routes.active.dest[(40 : Dcn)].contents.valid = true ∧
    (up 0 (routed 40 [3] quiet)).liveTarget 40 = none ∧ spray.liveTarget 40 = some 17 ∧
    (after (.dataUReceived 0 (cellOf 1 1 40 [])) spray).queueLength 17 1 = 1 ∧
    (after (.dataUReceived 0 (cellOf 1 1 40 [])) spray).routes.pointer[(40 : Dcn)] = 2 := by decide +kernel

theorem test_meets_SearchForLiveMember :
    spray.routes.active.dest[(40 : Dcn)].contents.count.toNat = 4 ∧ spray.routes.pointer[(40 : Dcn)].val = 0 ∧
    spray.routes.active.dest[(40 : Dcn)].contents.valid = true ∧
    spray.routes.active.dest[(40 : Dcn)].contents.members.toList[(0 + 1) % 4]? = some (BitVec.ofNat 8 (17 : LinkId).val) ∧
    (spray.port 17).unit.state = .up ∧ (spray.port 3).unit.state ≠ .up ∧
    ([3, 22, 50].map fun l => ((routed 40 [3, 17, 22, 50] quiet).port l).unit.state) = [.off, .off, .off] := by decide +kernel

theorem test_meets_SearchForLiveMember_possible : DestPossible spray.routes.active.dest[(40 : Dcn)].contents := by
  unfold DestPossible; decide +kernel

/-- Group 7 of the DCNs 40 and 41, on link 17 and on link 18, and a cell for it. -/
def grouped : State :=
  (routed 41 [18] spray).modRoutes fun r =>
    r.putGroup .active 7 { contents := { valid := true, echo := false, count := 2, members := bytesVec 32 [40, 41] }, intact := true }

theorem test_meets_MulticastCells :
    (grouped.port 0).unit.state = .up ∧ crc8 (cellOf 2 1 7 []).header.bytes7 = (cellOf 2 1 7 []).header.hchk ∧
    (cellOf 2 1 7 []).header.type = 2 ∧ 512 ≤ (cellOf 2 1 512 []).header.dest.toNat ∧
    (cellOf 2 1 511 []).header.dest.toNat = (511 : GroupId).val ∧
    (grouped.modRoutes fun r => { r with groupBad := r.groupBad.set 7 true }).routes.groupBad[(7 : GroupId)] = true ∧
    (after (.storageUpset (.group .active 7 groupInvalid)) grouped).routes.active.group[(7 : GroupId)].intact = false ∧
    grouped.routes.active.group[(6 : GroupId)].contents.valid = false ∧
    grouped.routes.active.group[(7 : GroupId)].contents.valid = true ∧
    ([40, 41] : List Dcn).map (fun d => BitVec.ofNat 8 d.val) =
      grouped.routes.active.group[(7 : GroupId)].contents.members.toList.take
        grouped.routes.active.group[(7 : GroupId)].contents.count.toNat ∧
    (grouped.resolveMembers 0 7).targets = [17] ∧
    ((grouped.modUnit 17 fun u => { u with state := .off }).resolveMembers 0 7).targets = [] ∧
    (after (.dataMReceived 0 (cellOf 2 1 7 [])) grouped).queueLength 17 1 = 1 ∧
    ((after (.dataMReceived 0 (cellOf 2 1 7 [])) grouped).port 0).counters[(11 : Fin 15)] = 1 := by decide +kernel

theorem test_meets_MulticastMembers :
    spray.routes.destBad[(40 : Dcn)] = false ∧ spray.routes.active.dest[(40 : Dcn)].intact = true ∧
    BitVec.ofNat 8 (3 : LinkId).val ∈ (members [3, 17, 22, 50]).members.toList.take 4 ∧
    BitVec.ofNat 8 (0 : LinkId).val ∉ (members [3, 17, 22, 50]).members.toList.take 4 ∧
    (resolveMember 3 false { state := spray, targets := [] } 40).targets = [] ∧
    (resolveMember 3 true { state := spray, targets := [] } 40).targets = [17] ∧
    ((resolveMember 0 false { state := spray, targets := [] } 39).state.port 0).counters[(11 : Fin 15)] = 1 := by decide +kernel

theorem test_meets_StorageUpsets :
    quiet.inReset = false ∧ (1 : Dcn) ≠ 0 ∧ (1 : GroupId) ≠ 0 ∧ RouteSetId.stageB ≠ .active ∧
    (after (.storageUpset (.group .stageB 511 groupInvalid)) quiet).routes.stageB.group[(511 : GroupId)].intact = false := by
  decide +kernel

/-! ## Hypotheses met: buffer and queues -/

theorem test_meets_AdmissionThreshold :
    quiet.agent.params = Params.reset ∧ quiet.buffer.free ≤ 4096 ∧
    ({ quiet with agent := { quiet.agent with params := quiet.agent.params.set 0 0 } } : State).param (.alpha 0) = 0 ∧
    ({ quiet with buffer := { quiet.buffer with free := 255 } } : State).threshold 0 = 1020 ∧
    ({ quiet with buffer := { quiet.buffer with free := 2048 } } : State).threshold 3 = 1024 := by decide +kernel

/-- F and D as given, and the queue (17, 1) with n descriptors. -/
def filled (free desc n : Nat) : State :=
  let s := spray.modPort 17 fun p => { p with queues := { p.queues with lists := p.queues.lists.set 1 (List.replicate n 0) } }
  { s with buffer := { slots := [], free := free, freeDesc := desc, congested := false } }

theorem test_meets_AdmissionCases :
    (filled 0 0 0).buffer.free = 0 ∧ (filled 1 1 2).threshold 1 ≤ (filled 1 1 2).queueLength 17 1 ∧
    (filled 1 1 1).queueLength 17 1 < (filled 1 1 1).threshold 1 ∧ (filled 1 0 1).buffer.freeDesc = 0 ∧
    (filled 1 1 1).judgeTargets 1 [17] = { admitted := [17], refused := [] } ∧
    (filled 1 0 1).judgeTargets 1 [17] = { admitted := [], refused := [(17, .bufferFull)] } ∧
    (filled 1 1 2).judgeTargets 1 [17] = { admitted := [], refused := [(17, .queueLimit)] } ∧
    ((filled 1 1 2).judgeTargets 1 [17]).refused.getLast? = some (17, .queueLimit) := by decide +kernel

/-- XOFF_HI and XOFF_LO of class 1 at 2 and 1. -/
def low (s : State) : State := { s with agent := { s.agent with params := (s.agent.params.set 5 2).set 9 1 } }

theorem test_meets_AdmissionEffect : spray.BufferConserved := by unfold State.BufferConserved; decide +kernel

theorem test_meets_AdmissionEffect_targets :
    1 ≤ spray.buffer.free ∧ ([17] : List LinkId) ≠ [] ∧ ([17] : List LinkId).length ≤ spray.buffer.freeDesc ∧
    (spray.admitCell 1 (cellOf 1 1 40 []) [17, 17]).queueLength 17 1 = 2 ∧
    ((spray.admitCell 1 (cellOf 1 1 40 []) [17, 17]).port 17).queues.xoff[(1 : ClassId)] = false ∧
    (((low spray).admitCell 1 (cellOf 1 1 40 []) [17, 17]).port 17).queues.xoff[(1 : ClassId)] = true ∧
    ((low spray).admitCell 1 (cellOf 1 1 40 []) [17, 17]).flow = { gapTimer := some 8, mapPending := false, boundaries := 0 } ∧
    ((low (filled 1 2 0)).admitCell 1 (cellOf 1 1 40 []) [17, 17]).flow =
      { gapTimer := some 8, mapPending := true, boundaries := 0 } := by decide +kernel

theorem test_meets_HeadRemoval : (holding .up (cellOf 1 2 0 [])).BufferConserved := by unfold State.BufferConserved; decide +kernel

theorem test_meets_HeadRemoval_slot :
    ((holding .up (cellOf 1 2 0 [])).port 0).queues.lists[(2 : ClassId)] = 0 :: [] ∧
    ({ id := 0, cell := cellOf 1 2 0 [], refs := 1 } : Slot) ∈ (holding .up (cellOf 1 2 0 [])).buffer.slots ∧
    ((holding .up (cellOf 1 2 0 [])).removeHead 0 2 0 []).buffer.free = 4096 ∧ ([] : List Nat).length ≤ quiet.param (.xoffLo 2) := by
  decide +kernel

/-- Slot 0 with two references, from the queues (0, 2) and (1, 2). -/
def shared : State :=
  let s := (holding .up (cellOf 2 2 0 [])).modPort 1 fun p =>
    { p with queues := { p.queues with lists := p.queues.lists.set 2 [0] } }
  { s with buffer := { slots := [{ id := 0, cell := cellOf 2 2 0 [], refs := 2 }], free := 4095, freeDesc := 8190, congested := false } }

theorem test_meets_HeadRemoval_shared : shared.BufferConserved := by unfold State.BufferConserved; decide +kernel

theorem test_removal_of_a_shared_slot :
    (shared.removeHead 0 2 0 []).flow = shared.flow ∧ (shared.removeHead 0 2 0 []).buffer.free = 4095 ∧ (shared.removeHead 0 2 0 []).buffer.freeDesc = 8191 ∧
    ((shared.removeHead 0 2 0 []).buffer.slots.map (·.refs)) = [1] := by decide +kernel

/-- F as given, with the global congestion flag. -/
def freeAt (n : Nat) (b : Bool) : State := { quiet with buffer := { quiet.buffer with free := n, congested := b } }

theorem test_meets_CongestionEvaluations :
    (quiet.port 0).queues.xoff[(0 : ClassId)] = false ∧ quiet.param .fPanic = 256 ∧ quiet.param .fResume = 512 ∧
    (freeAt 255 false).evalCongestion.buffer.congested = true ∧ (freeAt 256 false).evalCongestion.buffer.congested = false ∧
    (freeAt 511 true).evalCongestion.buffer.congested = true ∧ (freeAt 512 true).evalCongestion.buffer.congested = false := by
  decide +kernel

/-- A link's flush in progress. -/
def flushing (s : State) : State := s.modPort 0 fun p => { p with queues := { p.queues with flushing := true } }

theorem test_meets_Flushes :
    ((flushing quiet).port 0).queues.flushing = true ∧ (quiet.port 0).queues.flushing = false ∧ (quiet.port 0).queues.total = 0 ∧
    0 < ((holding .fault (cellOf 1 2 0 [])).port 0).queues.total ∧ (quiet.port 0).unit.state ≠ .qualify ∧
    ((flushing (holding .fault (cellOf 1 2 0 []))).port 0).queues.lists[(1 : ClassId)] = [] ∧
    ((after (.flushRemoval 0) (flushing (holding .fault (cellOf 1 2 0 [])))).port 0).counters[(13 : Fin 15)] = 1 ∧
    ((after (.flushCompletion 0) (runs 15 0 true true)).port 0).unit.state = .up ∧
    ((after (.flushCompletion 0) (flushing quiet)).port 0).queues.flushing = false := by decide +kernel

/-! ## Hypotheses met: congestion signalling and credits -/

theorem test_meets_ChangeNoticesGapAndRefresh :
    quiet.flow.gapTimer = none ∧ (inState .up).changeNotice.flow.gapTimer = some 8 ∧
    (inState .up).changeNotice.changeNotice.flow.mapPending = true ∧
    (after .gapTimerExpiry (inState .up).changeNotice).flow.gapTimer = none ∧
    (after .gapTimerExpiry (inState .up).changeNotice.changeNotice).flow = { gapTimer := some 8, mapPending := false, boundaries := 0 } ∧
    ((after .refresh ({ inState .up with flow := { quiet.flow with boundaries := 1 } } : State)).port 0).flowDue = true := by
  decide +kernel

theorem test_meets_CongestionMapBits (l : LinkId) :
    ((mapExample.port l).unit.state = .up ∧ BitVec.ofNat 8 l.val ∈ (members [3, 17]).members.toList.take (min 4 2)) ↔
      (l = 3 ∨ l = 17) := by
  revert l; decide +kernel

theorem test_meets_CreditGrants :
    (inState .up).inReset = false ∧ (cellOf 3 0 0 [64, 65, 0, 255]).headerOk = true ∧ (cellOf 3 0 0 [64, 65, 0, 255]).header.type = 3 ∧
    (cellOf 3 0 0 [64, 65, 0, 255]).payloadOk = true ∧
    ((after (.flowReceived 0 (cellOf 3 0 0 [64, 65, 0, 255])) (inState .up)).port 0).credit.granted = #v[64, 0, 0, 0] ∧
    ((after (.flowReceived 0 (cellOf 3 0 0 [64, 65, 0, 255])) (inState .up)).port 0).counters[(14 : Fin 15)] = 2 ∧
    ((after (.flowReceived 0 (cellOf 3 0 0 [64, 65, 0, 255])) (inState .up)).port 0).counters[(0 : Fin 15)] = 1 := by decide +kernel

/-! ## Hypotheses met: transmit scheduling -/

/-- SQUELCH_MODE as given, and link 0 in FAULT. -/
def squelched (mode : Half) : State :=
  { inState .fault with agent := { quiet.agent with params := quiet.agent.params.set 26 mode } }

theorem test_meets_ReadinessOutOfService :
    ([.off, .blank, .seek, .qualify, .test, .fault].map fun st => ((inState st).port 0).unit.state) =
      [.off, .blank, .seek, .qualify, .test, .fault] ∧
    (after .resetNLow quiet).inReset = true ∧
    ((after (.transmitReady 0) (squelched 0)).port 0).transmitter = some (quiet.idleCell 0) ∧
    ((after (.transmitReady 0) (squelched 1)).port 0).transmitter = some markerCell ∧
    ((after (.transmitReady 0) (squelched 2)).port 0).transmitter = none ∧
    ((after (.transmitReady 0) (squelched 3)).port 0).transmitter = some (quiet.idleCell 0) := by decide +kernel

/-- Link 0 with one cell of class 2 queued and credit for one. -/
def ready (st : LinkState) : State :=
  (holding st (cellOf 1 2 0 [9])).modPort 0 fun p => { p with credit := { p.credit with granted := #v[1, 1, 1, 1] } }

theorem test_meets_SelectionInService :
    ((ready .up).port 0).unit.state = .up ∧ ((ready .up).port 0).flowDue = false ∧ ((ready .up).port 0).sched.control = [] ∧
    ((ready .up).port 0).eligible 0 = false ∧ ((ready .up).port 0).eligible 2 = true ∧
    ((ready .up).roundRobin 0).2 = some .two ∧ ((inState .up).roundRobin 0).2 = none ∧
    ((after (.transmitReady 0) (ready .up)).port 0).transmitter = some (cellOf 1 2 0 [9]) ∧
    ((after (.transmitReady 0) (ready .up)).port 0).counters[(1 : Fin 15)] = 1 ∧
    ((after (.transmitReady 0) ((ready .up).modPort 0 fun p => { p with flowDue := true })).port 0).flowDue = false ∧
    ((after (.transmitReady 0) ((ready .up).placeControl 0 { kind := .response, cell := markerCell })).port 0).transmitter =
      some markerCell := by decide +kernel

theorem test_meets_SendingData : (ready .draining).BufferConserved := by unfold State.BufferConserved; decide +kernel

theorem test_meets_SendingData_drain :
    ((ready .draining).port 0).queues.lists[(2 : ClassId)] = 0 :: [] ∧
    ({ id := 0, cell := cellOf 1 2 0 [9], refs := 1 } : Slot) ∈ (ready .draining).buffer.slots ∧
    (((ready .draining).sendData 0 2).port 0).unit.state = .off ∧ (((ready .up).sendData 0 2).port 0).unit.state = .up ∧
    (((ready .up).sendData 0 2).port 0).credit.sent = #v[0, 0, 1, 0] := by decide +kernel

/-- Link 0 with its round robin and the classes that are eligible. -/
def robin (position : RoundRobin) (grant : Nat) (one two three : Bool) : State :=
  with0 fun p =>
    { p with sched := { p.sched with position := position, grant := grant }
             credit := { p.credit with granted := #v[1, 1, 1, 1] }
             queues := { p.queues with lists := #v[[], if one then [0] else [], if two then [1] else [], if three then [2] else []] } }

theorem test_meets_RoundRobinExamination :
    (robin .one 8 true true true).roundRobin 0 = ({ position := .one, grant := 7, control := [] }, some .one) ∧
    (robin .one 1 true true true).roundRobin 0 = ({ position := .two, grant := 4, control := [] }, some .one) ∧
    (robin .one 8 false true true).roundRobin 0 = ({ position := .two, grant := 3, control := [] }, some .two) ∧
    (robin .three 2 false true false).roundRobin 0 = ({ position := .two, grant := 3, control := [] }, some .two) ∧
    (robin .one 8 false false false).roundRobin 0 = ({ position := .one, grant := 8, control := [] }, none) := by decide +kernel

/-- The weights all 1. -/
def light (s : State) : State :=
  { s with agent := { s.agent with params := ((s.agent.params.set 12 1).set 13 1).set 14 1 } }

theorem test_meets_RoundRobinExamination_weight1 :
    (light quiet).param (.weight .two) ≤ 1 ∧
    (light (robin .one 1 false true true)).roundRobin 0 = ({ position := .three, grant := 1, control := [] }, some .two) ∧
    (light (robin .one 1 false false true)).roundRobin 0 = ({ position := .one, grant := 1, control := [] }, some .three) := by
  decide +kernel

/-! ## Hypotheses met: commits -/

/-- A NOW commit of stage A. -/
def nowA : CommitRequest := { stage := .a, now := true, target := 0 }

/-- A commit of stage B for epoch 5. -/
def at5 : CommitRequest := { stage := .b, now := false, target := 5 }

theorem test_meets_CheckWalkAndFiring :
    (walking nowA 0 none).commit.state = .checking nowA 0 none ∧ (0 : Nat) = (0 : Dcn).val ∧ (119 : Nat) = (119 : Dcn).val ∧
    (120 : Nat) = 120 + (0 : GroupId).val ∧ (631 : Nat) = 120 + (511 : GroupId).val ∧
    (after .walkExamination (walking nowA 631 none)).commit.state = .checking nowA 632 none ∧
    (after .walkExamination (after (.storageUpset (.dest .stageA 119 destInvalid)) (walking nowA 119 none))).commit.state =
      .checking nowA 120 (some (.dest 119)) ∧
    (after .checkCompletion (walking nowA 120 (some (.dest 119)))).elementFlag .commitFailed = true ∧
    (after .checkCompletion (walking nowA 632 none)).elementFlag .commitDone = true ∧
    (after .checkCompletion (walking at5 632 none)).commit.state = .armed at5 := by decide +kernel

theorem test_meets_CommitsAndScrubAtBoundaries :
    ahead 5 4 = true ∧ ahead 5 5 = false ∧ ahead 32767 0 = true ∧ ahead 32768 0 = false ∧ at5.target = 5 ∧ nowA.now = true ∧
    ((walking at5 7 none).commitAtBoundary { epoch := 4, lost := true }).commit.state = .checking at5 7 none ∧
    ((walking at5 7 none).commitAtBoundary { epoch := 5, lost := false }).commit.record =
      some { request := at5, outcome := .late, epoch := 5 } ∧
    ((armed at5).commitAtBoundary { epoch := 5, lost := true }).commit.record =
      some { request := at5, outcome := .abandoned, epoch := 5 } ∧
    ((armed at5).commitAtBoundary { epoch := 5, lost := false }).commit.record =
      some { request := at5, outcome := .done, epoch := 5 } ∧
    ((armed at5).commitAtBoundary { epoch := 4, lost := false }).commit.state = .armed at5 ∧
    ((armed at5).commitAtBoundary { epoch := 6, lost := false }).commit.record =
      some { request := at5, outcome := .late, epoch := 6 } := by decide +kernel

/-- The scrub at a position, with one boundary delivered. -/
def scrubbing (n : Fin 632) : State :=
  { quiet with commit := { quiet.commit with scrub := n, boundaries := [{ epoch := 1, lost := false }] } }

theorem test_meets_CommitBoundaryAndScrub :
    (scrubbing 119).commit.scrub.val = (119 : Dcn).val ∧ (scrubbing 631).commit.scrub.val = 120 + (511 : GroupId).val ∧
    (scrubbing 0).inReset = false ∧ (scrubbing 0).commit.boundaries = { epoch := 1, lost := false } :: [] ∧
    (after .commitBoundary (scrubbing 620)).commit.scrub = 4 ∧
    (after .commitBoundary (after (.storageUpset (.dest .active 3 destInvalid)) (scrubbing 631))).routes.destBad[(3 : Dcn)] = true := by
  decide +kernel

theorem test_meets_CommitRequests :
    (fieldsOf [0x10, 0, 0, 5, 0, 1]).command = 0x10 ∧ (fieldsOf [0x10, 0, 0, 5, 0, 1]).arg.getLsbD 1 = false ∧
    (fieldsOf [0x10, 0, 0, 5, 0, 2]).arg.getLsbD 1 = true ∧ (fieldsOf [0x11]).command = 0x11 ∧
    (after .commit (asking [0x10, 0, 0, 5, 0, 1] quiet)).commit.state = .checking at5 0 none ∧
    (after .commitNow (asking [0x10, 0, 0, 5, 0, 2] quiet)).commit.state = .checking nowA 0 none ∧
    (after .cancelCommit (asking [0x11] (armed at5))).commit.record = some { request := at5, outcome := .cancelled, epoch := 0 } ∧
    (asking [0x10] (armed at5)).commit.state ≠ .idle ∧ ahead (fieldsOf [0x10]).index quiet.epoch.count = false := by decide +kernel

/-! ## Hypotheses met: the epoch -/

/-- The epoch unit in a sync state with a miss run. -/
def synced (x : SyncState) (n : Nat) : State := { quiet with epoch := { quiet.epoch with sync := x, missRun := n } }

theorem test_meets_BoundaryRules :
    ((after .timerBoundary (synced .lost 4)).epoch.sync = .lost ∧ (after .timerBoundary (synced .acquiring 0)).epoch.count = 1) ∧
    (synced .locked 0).inReset = false ∧ (after .holdoverBoundary (synced .holdover 2)).epoch.missRun = 3 ∧
    (after .holdoverBoundary (synced .holdover 3)).epoch.sync = .lost ∧
    (after .holdoverBoundary (synced .holdover 3)).commit.boundaries = [{ epoch := 1, lost := true }] ∧
    (synced .locked 0).epoch.window ≤ 123 ∧ 132 ≤ (synced .locked 0).epoch.period + (synced .locked 0).epoch.tol ∧
    ((synced .locked 0).externalEpoch none 123).epoch.count = 0 ∧ ((synced .locked 0).externalEpoch none 124).epoch.count = 1 ∧
    ((synced .holdover 2).externalEpoch none 132).epoch.sync = .locked ∧
    ((synced .lost 4).externalEpoch none 1).epoch.sync = .locked ∧ ((synced .free 0).externalEpoch none 124).epoch.count = 0 := by
  decide +kernel

theorem test_meets_BoundaryEffect :
    ((quiet.boundary (some 1) .free 0 false).epoch.count = 1 ∧ (quiet.boundary (some 1) .free 0 false).elementFlag .epochJump = false) ∧
    ((quiet.boundary (some 9) .free 0 false).epoch.count = 9 ∧ (quiet.boundary (some 9) .free 0 false).elementFlag .epochJump = true) ∧
    (({ quiet with epoch := { quiet.epoch with pending := some 7 } } : State).boundary (some 9) .free 0 false).epoch.count = 7 := by
  decide +kernel

/-- EPOCH_SOURCE as given, and the sync state that goes with it. -/
def sourced (n : Half) (s : State) : State :=
  { s with agent := { s.agent with params := s.agent.params.set 17 n }, epoch := { s.epoch with sync := .acquiring } }

theorem test_meets_PinEventsAndSyncCells :
    (after .resetNLow quiet).inReset = true ∧
    (after (.epochInRisingEdge 10) quiet).epoch.pinHigh = true ∧ quiet.epoch.monitor = .low ∧
    (sourced 1 quiet).epoch.pinHigh = false ∧ (sourced 1 quiet).param .epochSource = 1 ∧ (sourced 1 quiet).epoch.monitor = .low ∧
    quiet.param .epochSource ≠ 1 ∧
    (after (.epochInRisingEdge 10) (sourced 1 quiet)).epoch.monitor = .high 64 ∧
    (after (.epochInRisingEdge 10) (sourced 1 quiet)).epoch.count = 1 ∧
    (after .stuckTimerExpiry (after (.epochInRisingEdge 10) (sourced 1 quiet))).elementFlag .pinStuck = true ∧
    (after .epochInFallingEdge (after (.epochInRisingEdge 10) quiet)).epoch.pinHigh = false ∧
    (cellOf 5 0 0 [1, 2]).headerOk = true ∧ (cellOf 5 0 0 [1, 2]).header.type = 5 ∧ (cellOf 5 0 0 [1, 2]).payloadOk = true ∧
    (sourced 2 (inState .up)).param .syncLink = (0 : LinkId).val ∧ (sourced 2 (inState .up)).param .epochSource = 2 ∧
    (after (.syncReceived 0 (cellOf 5 0 0 [1, 2]) 10) (sourced 2 (inState .up))).epoch.count = 0x0102 ∧
    quiet.param .syncLink ≠ (1 : LinkId).val ∧
    (after (.syncReceived 1 (cellOf 5 0 0 [1, 2]) 10) (up 1 quiet)).elementCounters[(5 : Fin 6)] = 1 := by decide +kernel

/-! ## Hypotheses met: management requests -/

/-- A MGMT cell for a TARGET. -/
def mgmt (target : Byte) : Cell := cellOf 4 0 0 [target, 9, 0x7E]

/-- A state with n requests waiting. -/
def waiting (n : Nat) (s : State) : State :=
  { s with agent := { s.agent with requests := List.replicate n { link := 0, body := bytesVec 62 [], context := 0 } } }

theorem test_meets_RequestAcceptance :
    (mgmt 5).headerOk = true ∧ (mgmt 5).header.type = 4 ∧ (mgmt 5).payloadOk = true ∧ (inState .up).inReset = false ∧
    ((inState .up).port 0).map.mgmtAllowed = true ∧ (mgmt 5).byte 0 = quiet.agent.identity.setWidth 8 ∧ (mgmt 255).byte 0 = 255 ∧
    (mgmt 6).byte 0 ≠ quiet.agent.identity.setWidth 8 ∧
    (after (.mgmtReceived 0 (mgmt 5)) (waiting 7 (inState .up))).agent.requests.length = 8 ∧
    (after (.mgmtReceived 0 (mgmt 255)) (waiting 8 (inState .up))).agent.lastDiscard = some (.queueFull, 0) ∧
    (after (.mgmtReceived 0 (mgmt 6)) (inState .up)).agent.lastDiscard = some (.notTarget, 0) ∧
    (after (.mgmtReceived 0 (mgmt 5)) ((inState .up).modPort 0 fun p => { p with map := { p.map with mgmtAllowed := false } })).agent.lastDiscard =
      some (.notAllowed, 0) := by decide +kernel

/-- Link 0 in UP with n responses waiting. -/
def responses (n : Nat) : State :=
  (inState .up).modPort 0 fun p => { p with sched := { p.sched with control := List.replicate n { kind := .response, cell := markerCell } } }

theorem test_meets_ControlQueue :
    ((responses 3).port 0).sched.control.length < 4 ∧ 4 ≤ ((responses 4).port 0).sched.control.length ∧
    (after .echo (asking [0x7E] (responses 4))).elementCounters[(1 : Fin 6)] = 1 ∧
    ((after .echo (asking [0x7E] (responses 3))).port 0).sched.control.length = 4 ∧ ((quiet.port 0).unit.state ≠ .up) ∧
    ((responses 4).emptyControl 0).elementCounters[(1 : Fin 6)] = 4 := by decide +kernel

theorem test_meets_RequestShapesReadsAndClears :
    (fieldsOf [1, 1, 0, 3, 27, 0]).shapeRefusal .config = none ∧ (fieldsOf [1, 1, 0, 4, 27, 0]).shapeRefusal .config = some .badIndex ∧
    (fieldsOf [1, 1, 0, 0, 0, 0]).shapeRefusal .config = some .badValue ∧ (fieldsOf [1, 1, 0, 0, 28, 0]).shapeRefusal .config = some .badValue ∧
    (fieldsOf [1, 0x0A, 0, 0, 1, 64]).shapeRefusal .counters = some .badIndex ∧
    (fieldsOf [1, 0x0A, 0, 15, 1, 63]).shapeRefusal .counters = none ∧
    (fieldsOf [1, 0x0A, 0, 6, 1, 255]).shapeRefusal .counters = some .badIndex ∧
    (fieldsOf [1, 0x11]).command = 1 ∧ objectOf (fieldsOf [1, 0x11]).object = none ∧
    objectOf (fieldsOf [3, 0x0B]).object = some .flags ∧ objectOf (fieldsOf [3, 0x10]).object = some .identity ∧
    (after .read (asking [1, 0x10, 0, 0, 1, 0] (inState .up))).agent.requests = [] ∧
    (after .readClear (asking [3, 0x0B, 0, 0, 2, 0] (inState .up))).notice.flags = 0 := by decide +kernel

/-- 10: the bytes of a READ of IDENTITY in its response. -/
theorem test_read_of_identity :
    (((after .read (asking [1, 0x10, 0, 0, 1, 0] (inState .up))).port 0).sched.control.map fun x => (x.cell.payload.toList.drop 8).take 8) =
      [[0x64, 0, 1, 5, 0, 0, 0, 0]] := by decide +kernel

theorem test_meets_ConfigWrites :
    (fieldsOf [2, 1, 0, 4, 1, 0, 0, 200]).command = 2 ∧ (fieldsOf [2, 1, 0, 4, 1, 0, 0, 200]).object = 1 ∧
    (fieldsOf [2, 1, 0, 4, 1, 0, 0, 200]).shapeRefusal .config = none ∧
    (after .writeConfig (asking [2, 1, 0, 4, 1, 0, 0, 200] quiet)).param (.xoffHi 0) = 200 ∧
    (after .writeConfig (asking [2, 1, 0, 4, 1, 0, 0, 96] quiet)).param (.xoffHi 0) = 192 ∧
    (after .writeConfig (asking [2, 1, 0, 17, 1, 0, 0, 2] quiet)).epoch.sync = .acquiring ∧
    (after .writeConfig (asking [2, 1, 0, 15, 2, 0, 0x0F, 0xFF, 0x10, 0] (freeAt 4094 false))).elementFlag .globalCongestion = true ∧
    (after .writeConfig (asking [2, 1, 0, 15, 2, 0, 0x0F, 0xFF, 0x10, 0] (freeAt 4094 false))).flow.gapTimer = some 8 ∧
    (after .writeConfig (asking [2, 1, 0, 15, 2, 0, 0x0F, 0xFF, 0x10, 0] (freeAt 4095 false))).buffer.congested = false ∧
    (paramKind 17).judge 3 = none ∧ (paramKind 17).judge 2 = some 2 ∧ (paramKind 27).judge 64 = none ∧
    (paramKind 27).judge 255 = some 255 ∧ (paramKind 4).judge 0 = some 1 ∧ (paramKind 4).judge 1025 = some 1024 ∧
    ({ quiet with agent := { quiet.agent with phase := .run } } : State).agent.phase = .run ∧
    (fieldsOf [2, 1, 0, 26, 1, 0, 0, 0]).index.toNat < 27 ∧ 27 ≤ (fieldsOf [2, 1, 0, 27, 1, 0, 0, 0]).index.toNat := by decide +kernel

theorem test_meets_PortMapWrites :
    (fieldsOf ([2, 2, 0, 63, 1, 0] ++ [63, 255, 1, 0, 2, 0, 16, 0, 129, 0])).object = 2 ∧
    (fieldsOf ([2, 2, 0, 63, 1, 0] ++ [63, 255, 1, 0, 2, 0, 16, 0, 129, 0])).shapeRefusal .portMap = none ∧
    parsePortMap [63, 255, 1, 0, 2, 0, 16, 0, 129, 0] =
      some { expectId := 63, expectLink := 255, mgmtAllowed := true, recovery := .manual, squelch := .silent, holdDown := 1,
             flapLimit := 15, errorLimit := 0, creditMax := 128, drainLimit := 1 } ∧
    parsePortMap [64, 255, 1, 0, 2, 0, 16, 0, 129, 0] = none ∧ parsePortMap [63, 255, 2, 0, 2, 0, 16, 0, 129, 0] = none ∧
    ((after .writePortMap (asking ([2, 2, 0, 63, 1, 0] ++ [63, 255, 1, 0, 2, 0, 16, 0, 129, 0]) quiet)).port 63).map.creditMax = 128 ∧
    (inState .blank |>.port 0).unit.state ≠ .off := by decide +kernel

theorem test_meets_RouteEntriesAndWrites :
    (parseDest [1, 4, 3, 17, 22, 63]).isSome = true ∧ parseDest [1, 5, 3, 17, 22, 63] = none ∧ parseDest [1, 2, 3, 64, 0, 0] = none ∧
    parseDest [1, 2, 3, 3, 0, 0] = none ∧ parseDest [0, 9, 9, 9, 9, 9] = some destInvalid ∧
    (parseGroup [3, 2, 4, 119]).isSome = true ∧ parseGroup [3, 2, 4, 120] = none ∧ parseGroup [3, 2, 4, 4] = none ∧
    parseGroup [1, 33, 1] = none ∧
    (fieldsOf [2, 3, 0, 119, 1, 0, 1, 1, 7]).shapeRefusal (.dest .stageA) = none ∧
    objectOf (fieldsOf [2, 3, 0, 119, 1, 0, 1, 1, 7]).object = some (.dest .stageA) ∧
    (after .writeStage (asking [2, 3, 0, 119, 1, 0, 1, 1, 7] quiet)).routes.stageA.dest[(119 : Dcn)].contents = members [7] ∧
    (after .writeActive (asking [2, 5, 0, 0, 1, 0, 1, 1, 7] quiet)).routes.active.dest[(0 : Dcn)].contents = members [7] ∧
    (after .writeStage (asking [2, 4, 0, 0, 1, 0, 1, 1, 7] (armed at5))).elementFlag .stageBusyWrite = true ∧
    (after .writeStage (asking [2, 6, 0, 9, 1, 0, 1, 1, 7] quiet)).routes.stageA.group[(9 : GroupId)].contents.valid = true := by
  decide +kernel

theorem test_meets_LinkCommands :
    64 ≤ (fieldsOf [0x20, 0, 0, 64]).index.toNat ∧ (fieldsOf [0x20, 0, 0, 63]).index.toNat = (63 : LinkId).val ∧
    ((after .linkEnable (asking [0x20, 0, 0, 63] quiet)).port 63).unit.blankTimer = some 256 ∧
    (fieldsOf [0x21, 0, 0, 0, 0, 1]).arg = 1 ∧ (fieldsOf [0x21, 0, 0, 0, 0, 2]).arg ≠ 0 ∧ (fieldsOf [0x21, 0, 0, 0, 0, 2]).arg ≠ 1 ∧
    ((after .linkDisableDrain (asking [0x21, 0, 0, 0, 0, 1] (holding .up (cellOf 1 2 0 [])))).port 0).unit.state = .draining ∧
    ((after .linkDisableDrain (asking [0x21, 0, 0, 0, 0, 1] (inState .up))).port 0).unit.state = .off ∧
    ((after .linkDisableNow (asking [0x21, 0, 0, 0, 0, 0] (holding .up (cellOf 1 2 0 [])))).port 0).queues.flushing = true ∧
    ((after .linkTest (asking [0x22, 0, 0, 0] quiet)).port 0).unit.state = .test ∧
    ((after .linkTest (asking [0x22, 0, 0, 0] (flushing quiet))).port 0).unit.state = .off := by decide +kernel

theorem test_meets_OtherCommands :
    (fieldsOf [0x30, 0, 1, 2]).command = 0x30 ∧ (after .setEpoch (asking [0x30, 0, 1, 2] quiet)).epoch.pending = some 0x0102 ∧
    (after .closeConfig (asking [0x40] quiet)).agent.phase = .run ∧ (fieldsOf [0x7E]).command = 0x7E ∧
    (fieldsOf [2, 0x0C, 0, 0, 1, 0, 1, 2, 0xFF]).shapeRefusal .masks = none ∧
    (after .writeMasks (asking [2, 0x0C, 0, 0, 1, 0, 1, 2, 0xFF] quiet)).notice.linkMasks = 0x1F ∧
    objectOf (fieldsOf [2, 0x11]).object = none ∧ objectOf (fieldsOf [2, 0x10]).object = some .identity ∧
    commandOf (fieldsOf [0x42]).command = none ∧
    (((after .unknownCommand (asking [0x42] (inState .up))).port 0).sched.control.map fun x => x.cell.byte 3) = [1] ∧
    (((after .write (asking [2, 0x10] (inState .up))).port 0).sched.control.map fun x => x.cell.byte 3) = [9] := by decide +kernel

/-! ## Hypotheses met: flags, notices, status objects -/

theorem test_meets_LatchingAndCounting :
    ElementFlag.bootFail ≠ .resetSeen ∧ LinkFlag.fault ≠ .linkUp ∧ (1 : LinkId) ≠ 0 ∧ LinkCounter.txCells ≠ .rxCells ∧
    ElementCounter.responseDrops ≠ .mgmtDiscards ∧ countUp (0xFFFFFFFF : BitVec 32) = 0xFFFFFFFF := by decide

/-- One boundary delivered to the notice unit, with NOTICE_LINK as given. -/
def noticed (link : Half) (s : State) : State :=
  { s with notice := { s.notice with boundaries := [7] }, agent := { s.agent with params := s.agent.params.set 27 link } }

theorem test_meets_NoticesAndAlarm :
    (noticed 0 (inState .up)).inReset = false ∧ (noticed 0 (inState .up)).notice.boundaries = 7 :: [] ∧
    (noticed 0 (inState .up)).param .noticeLink = (0 : LinkId).val ∧ (noticed 255 (inState .up)).param .noticeLink = 255 ∧
    (noticed 0 (inState .up)).notice.pending = true ∧
    ((after .noticeBoundary (noticed 0 (inState .up))).port 0).sched.control.length = 1 ∧
    (after .noticeBoundary (noticed 0 (inState .up))).notice.pending = false ∧
    (after .noticeBoundary (noticed 0 (inState .off))).notice.pending = true ∧
    (after .noticeBoundary (noticed 0 (responses 4))).notice.pending = true ∧
    quiet.param .alarmSource = 255 ∧ quiet.alarmN = false ∧
    ({ quiet with agent := { quiet.agent with params := quiet.agent.params.set 29 0 } } : State).alarmN = false ∧
    ({ inState .up with agent := { quiet.agent with params := quiet.agent.params.set 29 0 } } : State).alarmN = true := by
  decide +kernel

theorem test_meets_ObjectEntries :
    (5 : Byte).toNat = (5 : LinkId).val ∧ (walking at5 632 none).commit.state = .checking at5 632 none ∧
    (armed at5).commit.state = .armed at5 ∧
    (armed at5).readEntry .commitStatus 0 0 = [2, 1, 0, 5, 2, 120, 0, 0, 0, 0, 0, 0, 0, 0, 0, 0, 0, 0] ∧
    quiet.readEntry .epochStatus 0 0 = [0, 0, 0, 0, 0, 0, 0, 0] ∧
    quiet.readEntry .bootStatus 0 0 = [4, 0, 0, 0, 0, 0, 0, 0, 0, 0, 0, 0] ∧
    quiet.readEntry .config 0 4 = [0, 192] ∧ quiet.readEntry .portMap 0 63 = [255, 255, 1, 1, 0, 8, 4, 16, 64, 32] ∧
    (after (.dataUReceived 0 (cellOf 1 1 40 [])) spray).readEntry (.dest .active) 0 40 = [0x21, 4, 3, 17, 22, 50] ∧
    (spray.modRoutes fun r => { r with destBad := r.destBad.set 119 true }).readEntry (.dest .active) 0 119 = [2, 0, 0, 0, 0, 0] ∧
    (spray.modRoutes fun r => { r with destBad := r.destBad.set 119 true }).readEntry (.dest .stageA) 0 119 = [0, 0, 0, 0, 0, 0] ∧
    (grouped.readEntry (.group .active) 0 7).take 5 = [1, 2, 40, 41, 0] ∧
    (ready .up).readEntry .linkStatus 0 0 =
      [0, 4, 6, 0, 0, 0, 0, 0, 0, 0, 0, 0, 0, 1, 0, 0, 1, 1, 1, 1, 1, 1, 1, 1, 0, 0, 0, 0, 0, 0, 0, 0] := by decide +kernel

/-! ## Hypotheses met: boot -/

/-- The loader in a transfer, with its image so far and its arbitration-loss run. -/
def booting (st : BootState) (image : List Byte) (run : Nat) : State :=
  { State.reset with boot := { State.reset.boot with state := st, image := image, arbRun := run } }

theorem test_meets_BootTransfersAndPassOne :
    (booting .checking [] 6).boot.bus = .transferring ∧
    (after (.busTransferEnd .arbitrationLost) (booting .checking [] 6)).boot.bus = .waiting ∧
    (after .transferRepeat (after (.busTransferEnd .arbitrationLost) (booting .checking [] 6))).boot.bus = .transferring ∧
    (after (.busTransferEnd .arbitrationLost) (booting .checking [] 7)).boot.cause = .arbitration ∧
    (after (.busTransferEnd .noAck) (booting .checking [] 0)).boot.cause = .noAck ∧
    (after (.busTransferEnd (.success [1, 0, 0, 16, 0])) (booting .checking [] 3)).boot.arbRun = 0 ∧
    (after (.busTransferEnd (.success [1, 0, 0, 15, 0, 1])) (booting .checking [] 0)).boot.cause = .badHeader ∧
    (after (.busTransferEnd (.success [1, 0, 64, 1, 0, 1])) (booting .checking [] 0)).boot.cause = .badHeader ∧
    (after (.busTransferEnd (.success [1, 0, 64, 0, 0, 1])) (booting .checking [] 0)).boot.state = .checking ∧
    (after (.busTransferEnd (.success (shortImage.take 15 ++ [0]))) (booting .checking [] 0)).boot.cause = .badCheck ∧
    (after (.busTransferEnd (.success (shortImage.set 6 0x41))) (booting .checking [] 0)).boot.cause = .badHeader ∧
    (after (.busTransferEnd (.success (shortImage.drop 10))) (booting .checking (shortImage.take 10) 0)).boot.state = .applying := by
  decide +kernel

/-- A record of COMMAND, OBJECT, INDEX, COUNT and ARG, without DATA. -/
def recordOf (command object : Byte) (index : Half) (arg : Byte) : Fields :=
  { tag := 0, command := command, object := object, index := index, count := 1, arg := arg, data := [] }

/-- The loader in APPLYING with an image of one record. -/
def applying (image : List Byte) : State :=
  { State.reset with boot := { State.reset.boot with
      state := .applying, image := image, length := 16, recordCount := 1, offset := 6 } }

theorem test_meets_BootRecords :
    (applying []).boot.state = .applying ∧ (applying []).boot.bus = .transferring ∧
    (applying []).boot.recordIndex < (applying []).boot.recordCount ∧
    (applying []).boot.offset + 6 = (applying []).boot.length - 4 ∧
    (after (.busTransferEnd (.success (shortImage.take 11))) (applying [])).boot.state = .applying ∧
    (after (.busTransferEnd (.success (shortImage.take 12))) (applying [])).boot.state = .done ∧
    (after (.busTransferEnd (.success (shortImage.set 6 0x41))) (applying [])).boot.cause = .badHeader ∧
    (judgeRecord (recordOf 0x20 0 63 0) quiet).status = .ok ∧ (judgeRecord (recordOf 0x20 0 64 0) quiet).status = .badIndex ∧
    (judgeRecord (recordOf 0x20 0 0 0) (with0 fun p => { p with enableMark := true })).status = .busy ∧
    (judgeRecord (recordOf 0x21 0 0 2) quiet).status = .badValue ∧ (judgeRecord (recordOf 0x21 0 0 1) quiet).status = .ok ∧
    (asking [2, 0x10] quiet).inReset = false ∧ objectOf (fieldsOf [2, 0x10]).object = some .identity ∧
    (judgeRecord (fieldsOf [2, 5, 0, 0, 1, 0, 1, 1, 7]) quiet).status = .ok ∧
    (judgeRecord (recordOf 0x02 0x10 0 0) quiet).status = .readOnly ∧ (judgeRecord (recordOf 0x40 0 0 0) quiet).status = .ok ∧
    ((with0 fun p => { p with enableMark := true }).bootDone.port 0).unit.state = .blank ∧
    (quiet.applyRecord (recordOf 0x20 0 64 0) 6).boot.firstBad = some (0, .badIndex) := by decide +kernel

theorem test_meets_BootFailures :
    ElementFlag.resetSeen ≠ .bootFail ∧ ElementFlag.resetSeen ≠ .globalCongestion ∧
    ((after (.busTransferEnd .noAck) (applying [])).port 9).unit.state = .blank ∧
    (after (.busTransferEnd .noAck) (applying [])).boot.failInApply = true ∧
    ((freeAt 255 false).bootFailure .noAck).flow.gapTimer = some 8 ∧ ((freeAt 256 false).bootFailure .noAck).flow.gapTimer = none ∧
    (after (.busTransferEnd .noAck) (applying [])).elementFlag .bootFail = true := by decide +kernel

/-! ## Hypotheses met: invariants -/

/-- Every step from the quiet element answers a next state. -/
theorem test_step_answers (s : State) (h : s.pending = [.refresh]) : ∃ t, step s = .next t := by
  simp only [step, h]
  exact ⟨_, rfl⟩

/-- The element with a cell queued on link 0 and a command waiting. -/
def busy : State := { ready .up with pending := [.refresh] }

theorem test_meets_InvariantsHoldAtReset (b : Bool) (id : BitVec 6) : ∃ t, exec (.elementReset b id) busy = .next t := ⟨_, rfl⟩

theorem test_meets_StepsKeepTheBufferConserved : busy.BufferConserved ∧ busy.QueuesBounded := by
  unfold State.BufferConserved State.QueuesBounded; decide +kernel

theorem test_meets_StepsKeepCreditsBounded : busy.CreditBounded := by unfold State.CreditBounded; decide +kernel

theorem test_meets_StepsKeepTheServiceSound : busy.ServiceSound := by
  unfold State.ServiceSound BootLoader.working Port.ServiceSound; decide +kernel

theorem test_meets_StepsKeepTheConfigurationSound : busy.ConfigSound := by
  unfold State.ConfigSound State.XoffConsistent ParamsSound PortMapEntry.Sound; decide +kernel

theorem test_meets_StepsKeepTheLinksSound : busy.LinksSound := by
  unfold State.LinksSound LinkUnit.Sound; decide +kernel

theorem test_meets_StepsKeepTheEpochSound : busy.EpochSound := by
  refine ⟨by decide +kernel, ?_, by decide +kernel, by decide +kernel, by decide +kernel⟩
  show busy.epoch.missRun = 0
  decide +kernel

theorem test_meets_StepsKeepTheRoutesSound : busy.RoutesSound := by
  have h : RouteSet.reset.Sound := by
    refine ⟨fun d _ => ?_, fun g _ => ?_⟩
    · simp [RouteSet.reset, DestPossible, destInvalid]
    · simp [RouteSet.reset, GroupPossible, groupInvalid]
  refine ⟨h, h, h, fun d _ => ?_⟩
  have e : busy.routes = RouteStore.reset := rfl
  simp [e, RouteStore.reset, RouteSet.reset, destInvalid]

end Sys2Proof.Tests
end

section
/-! SUPPORT. Steps (spec/00_scope.md, R2): a step runs the command at the front of the queue; with none waiting the block takes an
event it owes, or one microsecond passes. -/

namespace Sys2Proof.Machine

variable {s : State}

/-! ### The step of a block with no command waiting -/

theorem idleStep_held (h : s.inReset = true) : idleStep s = .next s := by simp [idleStep, h]

theorem idleStep_due {c : Instr} (h : s.inReset = false) (hc : s.due = some c) : idleStep s = exec c s := by
  simp [idleStep, h, hc]

theorem idleStep_tick (h : s.inReset = false) (hd : s.due = none) : idleStep s = .next s.tick := by
  simp [idleStep, h, hd]

/-! ### One microsecond -/

/-- Only the timers move: of a link, its blank timer and its loss timer. -/
theorem tick_port (s : State) (l : LinkId) :
    s.tick.port l =
      { s.port l with unit :=
          { (s.port l).unit with
            blankTimer := tickTimer (s.port l).unit.blankTimer
            lossTimer := tickTimer (s.port l).unit.lossTimer } } :=
  port_mapPorts s _ l

/-! ### The statements -/

/-- Settles O1. -/
theorem stepRunsFrontCommand : Obligations.StepRunsFrontCommand := step_cons

/-- Settles O2, by the three cases of `idleStep`. -/
theorem stepOnEmptyQueue : Obligations.StepOnEmptyQueue := by
  intro s hp
  rw [step_nil hp]
  refine ⟨idleStep_held, fun h _ hc => idleStep_due h hc, fun h hd => ⟨s.tick, idleStep_tick h hd, ?_⟩⟩
  exact ⟨rfl, rfl, tick_port s, rfl, rfl, rfl, rfl, rfl, rfl, rfl, hp⟩

end Sys2Proof.Machine
end

section
/-! SUPPORT. The commit unit at an epoch boundary (spec/04_staging_commit_and_route_integrity.md, R75, R76, R85, R86): the commit in
progress case by case, then the visits of the scrub. -/

namespace Sys2Proof.Machine

/-! ### The epoch order (R1) -/

theorem ahead_iff (n e : Half) : ahead n e = true ↔ 1 ≤ (n - e).toNat ∧ (n - e).toNat ≤ 32767 := by
  simp [ahead]

/-! ### The commit in progress at a boundary (R75, R76) -/

section
variable {s : State} {b : Boundary} {q : CommitRequest}

theorem commitAtBoundary_idle (h : s.commit.state = .idle) : s.commitAtBoundary b = s := by
  simp [State.commitAtBoundary, h]

/-- R75: in CHECKING a boundary ends only a commit with a target that is no longer ahead. -/
theorem commitAtBoundary_checking {n : Nat} {f : Option RoutePos} (h : s.commit.state = .checking q n f) :
    s.commitAtBoundary b = if q.now || ahead q.target b.epoch then s else s.endCommit q .late b.epoch := by
  simp only [State.commitAtBoundary, h]

/-- R76: the cases of ARMED, in order. -/
theorem commitAtBoundary_armed (h : s.commit.state = .armed q) :
    s.commitAtBoundary b =
      if b.lost then s.endCommit q .abandoned b.epoch
      else if b.epoch = q.target then s.fire q b.epoch
      else if ahead q.target b.epoch then s
      else s.endCommit q .late b.epoch := by
  simp only [State.commitAtBoundary, h]

end

/-- R82, R83: a commit that ends LATE or ABANDONED is recorded, and latches COMMIT_FAILED. -/
theorem endCommit_failed (s : State) (q : CommitRequest) {o : CommitOutcome} (h : o = .late ∨ o = .abandoned) (e : Half) :
    s.endCommit q o e =
      ({ s with commit := { s.commit with
        state := .idle, record := some { request := q, outcome := o, epoch := e } } } : State).latch .commitFailed := by
  rcases h with rfl | rfl <;> rfl

@[simp] theorem endCommit_param (s : State) (q : CommitRequest) (o : CommitOutcome) (e : Half) (k : Param) :
    (s.endCommit q o e).param k = s.param k := by
  rw [endCommit_frame]; rfl

@[simp] theorem fire_param (s : State) (q : CommitRequest) (e : Half) (k : Param) : (s.fire q e).param k = s.param k := by
  rw [fire_frame]; rfl

/-- What a boundary does to the commit changes no parameter, so the scrub takes SCRUB_RATE as it stood. -/
@[simp] theorem commitAtBoundary_param (s : State) (b : Boundary) (k : Param) :
    (s.commitAtBoundary b).param k = s.param k := by
  cases h : s.commit.state with
  | idle => rw [commitAtBoundary_idle h]
  | checking q n f => rw [commitAtBoundary_checking h]; split <;> simp
  | armed q => rw [commitAtBoundary_armed h]; split_ifs <;> simp

/-! ### The scrub (R85, R86) -/

theorem routePos_dest (d : Dcn) : routePos d.val = some (.dest d) := by
  simp [routePos]

theorem routePos_group (g : GroupId) : routePos (120 + g.val) = some (.group g) := by
  simp [routePos]

theorem scrubVisits_eq_iterate (n : Nat) (s : State) : State.scrubVisits n s = State.scrubOne^[n] s := by
  induction n generalizing s with
  | zero => rfl
  | succ n ih => rw [State.scrubVisits, ih, Function.iterate_succ_apply]

section
variable {s : State} {d : Dcn} {g : GroupId}

theorem visit_dest_passed (h : s.routes.destBad[d] = true ∨ s.routes.active.dest[d].intact = true) :
    s.visit (.dest d) = s := by
  rcases h with h | h <;>
    simp only [State.visit, h, Bool.not_true, Bool.and_false, Bool.false_and, Bool.false_eq_true, if_false]

theorem visit_dest_failing (hb : s.routes.destBad[d] = false) (hi : s.routes.active.dest[d].intact = false) :
    s.visit (.dest d) = s.markDest d := by
  simp only [State.visit, hb, hi, Bool.not_false, Bool.and_self, if_true]

theorem visit_group_passed (h : s.routes.groupBad[g] = true ∨ s.routes.active.group[g].intact = true) :
    s.visit (.group g) = s := by
  rcases h with h | h <;>
    simp only [State.visit, h, Bool.not_true, Bool.and_false, Bool.false_and, Bool.false_eq_true, if_false]

theorem visit_group_failing (hb : s.routes.groupBad[g] = false) (hi : s.routes.active.group[g].intact = false) :
    s.visit (.group g) = s.markGroup g := by
  simp only [State.visit, hb, hi, Bool.not_false, Bool.and_self, if_true]

/-- A visit of the scrub is the visit of the entry at its position; then the position moves on. -/
theorem scrubOne_of_routePos {e : RoutePos} (h : routePos s.commit.scrub.val = some e) :
    s.scrubOne = (s.visit e).modCommit fun u => { u with scrub := nextScrub u.scrub } := by
  simp only [State.scrubOne, h]

theorem scrubOne_dest (h : s.commit.scrub.val = d.val) :
    s.scrubOne = (s.visit (.dest d)).modCommit fun u => { u with scrub := nextScrub u.scrub } :=
  scrubOne_of_routePos (h ▸ routePos_dest d)

theorem scrubOne_group (h : s.commit.scrub.val = 120 + g.val) :
    s.scrubOne = (s.visit (.group g)).modCommit fun u => { u with scrub := nextScrub u.scrub } :=
  scrubOne_of_routePos (h ▸ routePos_group g)

end

/-! ### COMMIT_BOUNDARY -/

/-- COMMIT_BOUNDARY takes the oldest delivered boundary: the commit first, then the visits of the scrub. -/
theorem execCommitBoundary_cons {s : State} {b : Boundary} {rest : List Boundary} (hr : s.inReset = false)
    (hb : s.commit.boundaries = b :: rest) :
    execCommitBoundary s =
      .next (State.scrubOne^[s.param .scrubRate]
        ((s.modCommit fun u => { u with boundaries := rest }).commitAtBoundary b)) := by
  rw [execCommitBoundary, act_run _ hr]
  simp only [State.commitBoundary, hb, scrubVisits_eq_iterate, commitAtBoundary_param, modCommit_param]

/-- Settles O34: the equations of `State.commitAtBoundary` for the commit, those of `State.visit` for the scrub. -/
theorem commitsAndScrubAtBoundaries : Obligations.CommitsAndScrubAtBoundaries := by
  refine ⟨⟨ahead_iff, fun s b q ended hended => ⟨commitAtBoundary_idle, fun n f h => ?_, fun h => ?_⟩⟩,
    fun s b rest t hr hb ht => ht ▸ execCommitBoundary_cons hr hb, fun s t ht => ?_⟩
  · rw [commitAtBoundary_checking h, hended, ← endCommit_failed s q (.inl rfl)]
    exact ⟨fun hn => by simp [hn], fun hn ha => by simp [ha], fun hn ha => by simp [hn, ha]⟩
  · rw [commitAtBoundary_armed h, hended, hended, ← endCommit_failed s q (.inl rfl), ← endCommit_failed s q (.inr rfl)]
    exact ⟨fun hl => by simp [hl], fun hl he => by simp [hl, he], fun hl he ha => by simp [hl, he, ha],
      fun hl he ha => by simp [hl, he, ha]⟩
  · subst ht
    refine ⟨?_, fun d hd => ⟨fun h => ?_, fun hb hi => ?_⟩, fun g hg => ⟨fun h => ?_, fun hb hi => ?_⟩, ?_⟩
    · rw [scrubOne_frame]; rfl
    · rw [scrubOne_dest hd, visit_dest_passed h]; exact ⟨rfl, rfl, rfl⟩
    · rw [scrubOne_dest hd, visit_dest_failing hb hi]; exact ⟨rfl, rfl, rfl⟩
    · rw [scrubOne_group hg, visit_group_passed h]; exact ⟨rfl, rfl, rfl⟩
    · rw [scrubOne_group hg, visit_group_failing hb hi]; exact ⟨rfl, rfl, rfl⟩
    · rw [scrubOne_frame]; exact ⟨rfl, rfl, rfl, rfl, rfl, rfl⟩

end Sys2Proof.Machine
end

section
/-! SUPPORT. Bytes (spec/00_scope.md, Conventions: Field layouts): what stands at each place of a list of bytes, of a padded or
bit-packed field and of a 16-bit field. -/

namespace Sys2Proof

/-! ### Places of a list of bytes -/

@[simp] theorem byteAt_cons_zero (x : Byte) (l : List Byte) : byteAt (x :: l) 0 = x := rfl

@[simp] theorem byteAt_cons_succ (x : Byte) (l : List Byte) (i : Nat) : byteAt (x :: l) (i + 1) = byteAt l i := rfl

@[simp] theorem byteAt_nil (i : Nat) : byteAt [] i = 0 := rfl

theorem byteAt_of_lt {l : List Byte} {i : Nat} (h : i < l.length) : byteAt l i = l[i] := by simp [byteAt, h]

theorem byteAt_of_le {l : List Byte} {i : Nat} (h : l.length ≤ i) : byteAt l i = 0 := by simp [byteAt, h]

theorem byteAt_append (a b : List Byte) (i : Nat) :
    byteAt (a ++ b) i = if i < a.length then byteAt a i else byteAt b (i - a.length) := by
  split <;> rename_i h
  · simp [byteAt, List.getElem?_append_left h]
  · simp [byteAt, List.getElem?_append_right (Nat.le_of_not_lt h)]

theorem byteAt_append_left {a : List Byte} (b : List Byte) {i : Nat} (h : i < a.length) :
    byteAt (a ++ b) i = byteAt a i := by
  rw [byteAt_append, if_pos h]

/-- The place of a later part, counted from where that part begins. -/
theorem byteAt_append_add {a : List Byte} {n : Nat} (hn : a.length = n) (b : List Byte) (i : Nat) :
    byteAt (a ++ b) (n + i) = byteAt b i := by
  rw [byteAt_append, if_neg (by omega), hn, Nat.add_sub_cancel_left]

theorem byteAt_drop (l : List Byte) (n i : Nat) : byteAt (l.drop n) i = byteAt l (n + i) := by
  simp [byteAt]

theorem byteAt_toList {n : Nat} (v : Vector Byte n) (i : Fin n) : byteAt v.toList i.val = v[i] := by
  simp [byteAt]

/-! ### Padded fields -/

theorem byteAt_replicate (n i : Nat) : byteAt (List.replicate n 0) i = 0 := by
  simp [byteAt, List.getElem?_replicate]
  split <;> rfl

theorem byteAt_padTo {n i : Nat} (l : List Byte) (h : i < n) : byteAt (padTo n l) i = byteAt l i := by
  rw [padTo, byteAt, List.getD_eq_getElem?_getD, List.getElem?_take, if_pos h, ← List.getD_eq_getElem?_getD]
  change byteAt (l ++ List.replicate n 0) i = byteAt l i
  rw [byteAt_append]
  split <;> rename_i hl
  · rfl
  · rw [byteAt_replicate, byteAt_of_le (Nat.le_of_not_lt hl)]

theorem padTo_of_length {n : Nat} {l : List Byte} (h : l.length = n) : padTo n l = l := by
  simp [padTo, ← h]

theorem byteAt_field {start len i : Nat} (l : List Byte) (h : i < len) :
    byteAt (field l start len) i = byteAt l (start + i) := by
  rw [field, byteAt_padTo _ h, byteAt_drop]

theorem field_length (l : List Byte) (start len : Nat) : (field l start len).length = len := padTo_length _ _

theorem payloadOf_toList (l : List Byte) : (payloadOf l).toList = padTo 64 l := rfl

theorem payloadOf_toList_self (p : Payload) : payloadOf p.toList = p :=
  Vector.toList_inj.1 (padTo_of_length (Vector.length_toList ..))

/-! ### 16-bit fields -/

@[simp] theorem half_hiByte_loByte (w : Half) : half (hiByte w) (loByte w) = w := by
  simp only [half, hiByte, loByte]
  rw [BitVec.extractLsb'_append_extractLsb'_eq_extractLsb' (by rfl)]
  simp

theorem half_toNat (hi lo : Byte) : (half hi lo).toNat = 256 * hi.toNat + lo.toNat := by
  rw [half, BitVec.toNat_append, ← Nat.shiftLeft_add_eq_or_of_lt lo.isLt, Nat.shiftLeft_eq, Nat.mul_comm]

@[simp] theorem bytes16_length (w : Half) : (bytes16 w).length = 2 := rfl

/-! ### Single bits -/

theorem bitAt_getLsbD (b : Bool) {i j : Nat} (hj : j < 8) : (bitAt b i).getLsbD j = (b && decide (i = j)) := by
  cases b
  · simp [bitAt]
  · simp [bitAt, hj, eq_comm]

/-! ### Bits packed into bytes, the first in bit 7 of the first byte -/

theorem pushBit_getLsbD (r : Byte) (b : Bool) {i : Nat} (hi : i < 8) :
    ((r <<< 1) ||| (BitVec.ofBool b).setWidth 8).getLsbD i = if i = 0 then b else r.getLsbD (i - 1) := by
  rcases i with _ | i
  · cases b <;> simp
  · simp [hi]
    exact (BitVec.getLsbD_eq_getElem _).symm

theorem foldl_pushBit_getLsbD (bits : List Bool) (r : Byte) {i : Nat} (hi : i < 8) :
    (bits.foldl (fun (r : Byte) b => (r <<< 1) ||| (BitVec.ofBool b).setWidth 8) r).getLsbD i =
      bits.reverse.getD i (r.getLsbD (i - bits.length)) := by
  induction bits generalizing r with
  | nil => rfl
  | cons b rest ih =>
    rw [List.foldl_cons, ih]
    simp only [List.reverse_cons, List.getD_eq_getElem?_getD, List.length_cons]
    rcases lt_trichotomy i rest.length with h | h | h
    · simp [h, List.getElem?_append_left]
    · subst h
      simp
    · rw [List.getElem?_append_right (by simp; omega), pushBit_getLsbD _ _ (by omega), if_neg (by omega)]
      simp [show rest.length ≤ i by omega, show i - rest.length ≠ 0 by omega, Nat.sub_sub]

/-- Bit 7 of a byte is the first of its eight bits. -/
theorem byteOfBits_getLsbD {bits : List Bool} (h : bits.length = 8) {j : Nat} (hj : j < 8) :
    (byteOfBits bits).getLsbD (7 - j) = bits.getD j false := by
  rw [byteOfBits, foldl_pushBit_getLsbD _ _ (by omega)]
  simp [h, hj, show 7 - j < 8 by omega, show 7 - (7 - j) = j by omega]

end Sys2Proof

namespace Sys2Proof.Machine

theorem bytesOfBits_length (n : Nat) (bits : List Bool) : (bytesOfBits n bits).length = n := by
  simp [bytesOfBits]

/-- Bit i of the list stands at bit 7 − (i mod 8) of byte floor(i / 8). -/
theorem bytesOfBits_getLsbD {n : Nat} {bits : List Bool} (h : 8 * n ≤ bits.length) {i : Nat} (hi : i < 8 * n) :
    (byteAt (bytesOfBits n bits) (i / 8)).getLsbD (7 - i % 8) = bits.getD i false := by
  have hk : i / 8 < n := by omega
  have hlen : ((bits.drop (8 * (i / 8))).take 8).length = 8 := by simp; omega
  rw [byteAt_of_lt (by simpa [bytesOfBits_length] using hk)]
  simp only [bytesOfBits, List.getElem_map, List.getElem_range]
  rw [byteOfBits_getLsbD hlen (Nat.mod_lt _ (by decide))]
  simp [Nat.mod_lt, Nat.div_add_mod]

end Sys2Proof.Machine
end

section
/-! SUPPORT. Headers, checks and the cells the element builds (spec/01_cells.md, R3 to R6). -/

namespace Sys2Proof

/-! ### Cyclic redundancy checks -/

theorem crcBit_eq {w : Nat} (poly reg : BitVec w) (bit : Bool) :
    crcBit poly reg bit = (reg <<< 1) ^^^ (if reg.msb != bit then poly else 0) := by
  unfold crcBit
  split <;> simp

/-- Eight steps of the register take one byte, most significant bit first. -/
theorem crcByte_eq_of_steps {w : Nat} {poly : BitVec w} {x : Byte} {r : Nat → BitVec w}
    (h : ∀ i, i < 8 → r (i + 1) = crcBit poly (r i) (x.getLsbD (7 - i))) : crcByte poly (r 0) x = r 8 := by
  simp [crcByte, h 0, h 1, h 2, h 3, h 4, h 5, h 6, h 7]

/-- The check is the register after a step for every bit of the bytes. -/
theorem crc_eq_of_steps {w : Nat} {poly : BitVec w} {b : List Byte} {r : Nat → BitVec w}
    (h : ∀ i, i < 8 * b.length → r (i + 1) = crcBit poly (r i) ((byteAt b (i / 8)).getLsbD (7 - i % 8))) :
    crc poly (r 0) b = r (8 * b.length) := by
  induction b generalizing r with
  | nil => rfl
  | cons x rest ih =>
    have first : crcByte poly (r 0) x = r 8 := crcByte_eq_of_steps fun i hi => by
      have := h i (by simp; omega)
      rwa [Nat.div_eq_of_lt hi, Nat.mod_eq_of_lt hi] at this
    have later : crc poly (r 8) rest = r (8 + 8 * rest.length) := ih (r := fun i => r (8 + i)) fun i hi => by
      have := h (8 + i) (by simp; omega)
      rwa [Nat.add_div_left i (by decide), Nat.add_mod_left] at this
    rw [crc, List.foldl_cons, first]
    exact later.trans (by simp [Nat.mul_add, Nat.add_comm])

/-! ### Headers (R3) -/

theorem Header.bits_toNat (h : Header) :
    h.bits.toNat = ((h.type.toNat * 2 ^ 2 + h.cls.toNat) * 2 ^ 10 + h.dest.toNat) * 2 ^ 40 + h.context.toNat := by
  simp only [Header.bits, BitVec.toNat_append]
  rw [← Nat.shiftLeft_add_eq_or_of_lt h.cls.isLt, ← Nat.shiftLeft_add_eq_or_of_lt h.dest.isLt,
    ← Nat.shiftLeft_add_eq_or_of_lt h.context.isLt]
  simp only [Nat.shiftLeft_eq]

/-- Bits 52 to 55, 50 to 51, 40 to 49 and 0 to 39 of the seven bytes are the fields. -/
theorem Header.bits_fields (h : Header) :
    h.bits.extractLsb' 52 4 = h.type ∧ h.bits.extractLsb' 50 2 = h.cls ∧ h.bits.extractLsb' 40 10 = h.dest ∧
      h.bits.extractLsb' 0 40 = h.context := by
  have := h.type.isLt
  have := h.cls.isLt
  have := h.dest.isLt
  have := h.context.isLt
  refine ⟨?_, ?_, ?_, ?_⟩ <;>
  · apply BitVec.eq_of_toNat_eq
    rw [BitVec.extractLsb'_toNat, h.bits_toNat, Nat.shiftRight_eq_div_pow]
    omega

theorem Header.bytes7_bits (h : Header) :
    (byteAt h.bytes7 0 ++ byteAt h.bytes7 1 ++ byteAt h.bytes7 2 ++ byteAt h.bytes7 3 ++ byteAt h.bytes7 4 ++
      byteAt h.bytes7 5 ++ byteAt h.bytes7 6 : BitVec 56) = h.bits := by
  simp only [Header.bytes7, byteAt_cons_zero, byteAt_cons_succ]
  repeat rw [BitVec.extractLsb'_append_extractLsb'_eq_extractLsb' (by rfl)]
  simp

@[simp] theorem Header.bytes7_length (h : Header) : h.bytes7.length = 7 := rfl

/-- A header is read back from its bytes. -/
theorem Header.ofBytes_bytes7 (h : Header) (rest : List Byte) : Header.ofBytes (h.bytes7 ++ h.hchk :: rest) = h := by
  obtain ⟨htype, hcls, hdest, hcontext⟩ := h.bits_fields
  have byte_lt (i : Nat) (hi : i < 7) : byteAt (h.bytes7 ++ h.hchk :: rest) i = byteAt h.bytes7 i :=
    byteAt_append_left _ hi
  have last : byteAt (h.bytes7 ++ h.hchk :: rest) 7 = h.hchk := rfl
  simp only [Header.ofBytes, byte_lt 0 (by decide), byte_lt 1 (by decide), byte_lt 2 (by decide), byte_lt 3 (by decide),
    byte_lt 4 (by decide), byte_lt 5 (by decide), byte_lt 6 (by decide), last, h.bytes7_bits, htype, hcls, hdest, hcontext]

/-- The bytes before HCHK, by the fields: TYPE, CLASS and the top of DEST; the rest of DEST; CONTEXT. -/
theorem Header.bytes7_toNat (h : Header) :
    (byteAt h.bytes7 0).toNat = 16 * h.type.toNat + 4 * h.cls.toNat + h.dest.toNat / 256 ∧
      (byteAt h.bytes7 1).toNat = h.dest.toNat % 256 ∧
      ∀ i, i < 5 → (byteAt h.bytes7 (2 + i)).toNat = h.context.toNat / 256 ^ (4 - i) % 256 := by
  have := h.type.isLt
  have := h.cls.isLt
  have := h.dest.isLt
  have := h.context.isLt
  have byte (k : Nat) : (h.bits.extractLsb' k 8).toNat =
      (((h.type.toNat * 2 ^ 2 + h.cls.toNat) * 2 ^ 10 + h.dest.toNat) * 2 ^ 40 + h.context.toNat) / 2 ^ k % 2 ^ 8 := by
    rw [BitVec.extractLsb'_toNat, h.bits_toNat, Nat.shiftRight_eq_div_pow]
  refine ⟨(byte 48).trans (by omega), (byte 40).trans (by omega), fun i hi => ?_⟩
  interval_cases i
  · exact (byte 32).trans (by omega)
  · exact (byte 24).trans (by omega)
  · exact (byte 16).trans (by omega)
  · exact (byte 8).trans (by omega)
  · exact (byte 0).trans (by omega)

/-! ### Cells (R3, R5, R6) -/

theorem Cell.headerOk_iff (c : Cell) : c.headerOk = true ↔ crc8 c.header.bytes7 = c.header.hchk := beq_iff_eq

theorem Cell.payloadOk_iff (c : Cell) :
    c.payloadOk = true ↔ crc16 (c.payload.toList.take 62) = half (c.byte 62) (c.byte 63) := beq_iff_eq

theorem Cell.ofBytes_bytes (c : Cell) : Cell.ofBytes c.bytes = c := by
  have hb : c.bytes = c.header.bytes7 ++ c.header.hchk :: c.payload.toList := by simp [Cell.bytes]
  have hp : c.bytes.drop 8 = c.payload.toList := rfl
  rw [Cell.ofBytes, hp, payloadOf_toList_self, hb, Header.ofBytes_bytes7]

theorem bytes32_toNat (w : BitVec 32) {i : Nat} (hi : i < 4) :
    (byteAt (bytes32 w) i).toNat = w.toNat / 256 ^ (3 - i) % 256 := by
  interval_cases i <;> simp [bytes32, Nat.shiftRight_eq_div_pow]

/-- R5: the worked header of the manual (a DATA_U cell of CLASS 0 for DCN 5). -/
theorem crc8_worked : crc8 [0x10, 0x05, 0, 0, 0, 0, 0] = 0x5E := by decide +kernel

/-- Settles O13. -/
theorem headerBytesAndChecks : Obligations.HeaderBytesAndChecks := by
  refine ⟨fun b => ⟨fun r h0 h => ?_, fun r h0 h => ?_, fun r h0 h => ?_⟩, crc8_worked, fun h => ?_, fun c => ?_,
    half_toNat, fun w => ?_, fun w => ⟨rfl, fun i => bytes32_toNat w⟩, fun b i => ⟨rfl, rfl⟩⟩
  · rw [crc8, ← h0]
    exact crc_eq_of_steps fun i hi => by rw [crcBit_eq, h i hi]
  · rw [crc16, ← h0]
    exact crc_eq_of_steps fun i hi => by rw [crcBit_eq, h i hi]
  · rw [crc32, ← h0]
    exact congrArg _ (crc_eq_of_steps fun i hi => by rw [crcBit_eq, h i hi])
  · obtain ⟨b0, b1, b2⟩ := h.bytes7_toNat
    exact ⟨rfl, b0, b1, b2, h.ofBytes_bytes7 []⟩
  · exact ⟨c.headerOk_iff, c.payloadOk_iff, byteAt_toList c.payload, rfl, by simp [Cell.bytes], c.ofBytes_bytes⟩
  · exact ⟨by rw [← half_toNat, half_hiByte_loByte], rfl⟩

end Sys2Proof
end

section
/-! SUPPORT. The classifier (spec/01_cells.md, R16 to R19): what a received cell comes to by the state of its link and by the row
of the command, and the reports that end there. -/

namespace Sys2Proof

theorem Cell.isA_iff {t : CellType} {c : Cell} : c.isA t = true ↔ c.headerOk = true ∧ c.header.type = t.code := by
  simp [Cell.isA]

theorem Cell.isA_of {t : CellType} {c : Cell} (hok : c.headerOk = true) (h : c.header.type = t.code) : c.isA t = true :=
  Cell.isA_iff.2 ⟨hok, h⟩

theorem Cell.isUnknown_iff {c : Cell} : c.isUnknown = true ↔ c.headerOk = true ∧ 8 ≤ c.header.type.toNat := by
  simp [Cell.isUnknown]

end Sys2Proof

namespace Sys2Proof.Machine

variable {s : State} {l : LinkId} {cell : Cell}

/-! ### One link changed -/

theorem modPort_congr {f g : Port → Port} (h : f (s.port l) = g (s.port l)) : s.modPort l f = s.modPort l g := by
  simp only [State.modPort, h]

theorem modPort_of_fixed {f : Port → Port} (h : f (s.port l) = s.port l) : s.modPort l f = s := by
  rw [State.modPort, h]
  simp [State.setPort, State.port]

@[simp] theorem countLink_unit (k : LinkCounter) (m : LinkId) : ((s.countLink l k).port m).unit = (s.port m).unit := by
  by_cases h : m = l
  · subst h; rw [port_countLink_self]; rfl
  · rw [port_countLink_ne h]

@[simp] theorem countLink_map (k : LinkCounter) (m : LinkId) : ((s.countLink l k).port m).map = (s.port m).map := by
  by_cases h : m = l
  · subst h; rw [port_countLink_self]; rfl
  · rw [port_countLink_ne h]

/-! ### A cell by the state of its link (R16) -/

section
variable {onTest onQualify onService : State → State}

theorem receive_test (h : (s.port l).unit.state = .test) : s.receive l onTest onQualify onService = onTest s := by
  simp only [State.receive, h]

theorem receive_qualify (h : (s.port l).unit.state = .qualify) :
    s.receive l onTest onQualify onService = onQualify (s.countLink l .rxCells) := by
  simp only [State.receive, h]

theorem receive_service (h : (s.port l).unit.state = .up ∨ (s.port l).unit.state = .draining) :
    s.receive l onTest onQualify onService = onService (s.countLink l .rxCells) := by
  rcases h with h | h <;> simp only [State.receive, h]

/-- Where QUALIFY and service take a cell alike, it is taken in the three states that examine cells. -/
theorem receive_examined {take : State → State}
    (h : (s.port l).unit.state = .qualify ∨ (s.port l).unit.state = .up ∨ (s.port l).unit.state = .draining) :
    s.receive l onTest take take = take (s.countLink l .rxCells) :=
  h.elim receive_qualify receive_service

theorem receive_unexamined (h : (s.port l).unit.state = .off ∨ (s.port l).unit.state = .blank ∨
    (s.port l).unit.state = .seek ∨ (s.port l).unit.state = .fault) : s.receive l onTest onQualify onService = s := by
  rcases h with h | h | h | h <;> simp only [State.receive, h]

/-- A cell that the test checker does not take changes nothing in TEST either. -/
theorem receive_idleTest (h : (s.port l).unit.state = .off ∨ (s.port l).unit.state = .blank ∨
    (s.port l).unit.state = .seek ∨ (s.port l).unit.state = .fault ∨ (s.port l).unit.state = .test) :
    s.receive l (fun t => t) onQualify onService = s := by
  rcases h with h | h | h | h | h <;> simp only [State.receive, h]

end

theorem checked_passed {k : State → State} (h : cell.payloadOk = true) : s.checked l cell k = k s := if_pos h

theorem checked_failed {k : State → State}
    (h : crc16 (cell.payload.toList.take 62) ≠ half (cell.byte 62) (cell.byte 63)) :
    s.checked l cell k = (s.countLink l .payloadErrors).report l .checkFailed := if_neg (mt cell.payloadOk_iff.1 h)

/-- R20, R35: in service the report OTHER ends the remote-marker run and does nothing else. -/
theorem report_other_service (h : (s.port l).unit.state = .up ∨ (s.port l).unit.state = .draining) :
    s.report l .other = s.modUnit l fun u => { u with markerRun := 0 } := by
  rcases h with h | h <;>
    simp [State.report, h, State.serviceFault, LinkUnit.moveService, LinkUnit.moveMismatch]

/-! ### The rows of a received cell -/

section
variable (l cell) (hr : s.inReset = false)
include hr

theorem exec_dataUReceived : exec (.dataUReceived l cell) s = .next (if cell.isA .dataU then
    s.receive l (fun t => t) (fun t => t.notUp l) fun t => (t.takeDataU l cell).report l .other else s) := act_run _ hr

theorem exec_dataMReceived : exec (.dataMReceived l cell) s = .next (if cell.isA .dataM then
    s.receive l (fun t => t) (fun t => t.notUp l) fun t => (t.takeDataM l cell).report l .other else s) := act_run _ hr

theorem exec_flowReceived : exec (.flowReceived l cell) s = .next (if cell.isA .flow then
    s.receive l (fun t => t) (fun t => t.notUp l) fun t => t.checked l cell fun u => (u.takeFlow l cell).report l .other
    else s) := act_run _ hr

theorem exec_mgmtReceived : exec (.mgmtReceived l cell) s = .next (if cell.isA .mgmt then
    s.receive l (fun t => t) (fun t => t.notUp l) fun t => t.checked l cell fun u => (u.takeMgmt l cell).report l .other
    else s) := act_run _ hr

theorem exec_syncReceived (elapsed : Nat) : exec (.syncReceived l cell elapsed) s = .next (if cell.isA .sync then
    s.receive l (fun t => t) (fun t => t.notUp l) fun t => t.checked l cell fun u =>
      (u.takeSync l (half (cell.byte 0) (cell.byte 1)) elapsed).report l .other
    else s) := act_run _ hr

theorem exec_idleReceived : exec (.idleReceived l cell) s = .next (if cell.isA .idle then
    s.receive l (fun t => t) (fun t => t.takeIdle l cell) fun t => t.takeIdle l cell else s) := act_run _ hr

theorem exec_markerReceived : exec (.markerReceived l cell) s = .next (if cell.isA .marker then
    s.receive l (fun t => t) (fun t => t.report l .marker) fun t => t.report l .marker else s) := act_run _ hr

theorem exec_testReceived : exec (.testReceived l cell) s = .next (if cell.isA .test then
    s.receive l (fun t => t.modPort l (Port.checkTestCell cell)) (fun t => t.notUp l) fun t => t.report l .other
    else s) := act_run _ hr

theorem exec_damagedCellReceived : exec (.damagedCellReceived l cell) s = .next (if !cell.headerOk then
    s.receive l (fun t => t.modPort l Port.checkDamaged) (fun t => t.takeDamaged l) fun t => t.takeDamaged l
    else s) := act_run _ hr

theorem exec_unknownTypeReceived : exec (.unknownTypeReceived l cell) s = .next (if cell.isUnknown then
    s.receive l (fun t => t) (fun t => t.takeUnknown l) fun t => t.takeUnknown l else s) := act_run _ hr

end

/-! ### The IDLE cell a Port Map entry expects (R28) -/

theorem matchesIdle_iff (e : PortMapEntry) (c : Cell) :
    e.matchesIdle c = true ↔ c.byte 0 = 1 ∧ (e.expectId = 255 ∨ c.byte 1 = e.expectId) ∧
      (e.expectLink = 255 ∨ c.byte 2 = e.expectLink) := by
  simp [PortMapEntry.matchesIdle, and_assoc]

/-- Settles O14, clause by clause: the row's meaning, then its cell by the state of the link. -/
theorem cellsByTypeInTheClassifier : Obligations.CellsByTypeInTheClassifier := by
  refine ⟨fun s l cell elapsed hr => ⟨fun h => ?_, fun h => ?_⟩,
    fun s l cell hr h => ⟨fun hbad => ?_, fun hok ht => ?_⟩,
    fun s l cell elapsed t hr h hok ht => ?_, fun s l cell elapsed t hr hok hbad ht => ⟨fun h => ?_, fun h htype => ?_⟩,
    fun s l cell e hr he hok => ⟨fun h => ⟨fun m htype hpay hm => ?_, fun htype => ?_⟩, fun h htype => ?_⟩⟩
  · simp only [exec_dataUReceived l cell hr, exec_dataMReceived l cell hr, exec_flowReceived l cell hr,
      exec_mgmtReceived l cell hr, exec_syncReceived l cell hr, exec_idleReceived l cell hr, exec_markerReceived l cell hr,
      exec_unknownTypeReceived l cell hr, receive_idleTest h, ite_self, and_self]
  · simp only [exec_testReceived l cell hr, exec_damagedCellReceived l cell hr, receive_unexamined h, ite_self, and_self]
  · have hd : (!cell.headerOk) = true := by simpa using mt cell.headerOk_iff.1 hbad
    rw [exec_damagedCellReceived l cell hr, if_pos hd, receive_examined h, State.takeDamaged]
  · rw [exec_unknownTypeReceived l cell hr, if_pos (Cell.isUnknown_iff.2 ⟨cell.headerOk_iff.2 hok, ht⟩),
      receive_examined h, State.takeUnknown]
  · subst ht
    have isA := fun k => Cell.isA_of (t := k) (cell.headerOk_iff.2 hok)
    refine ⟨fun hk => ?_, fun hk => ?_, fun hk => ?_, fun hk => ?_, fun hk => ?_, fun hk => ?_⟩
    · rw [exec_dataUReceived l cell hr, if_pos (isA .dataU hk), receive_qualify h, State.notUp]
    · rw [exec_dataMReceived l cell hr, if_pos (isA .dataM hk), receive_qualify h, State.notUp]
    · rw [exec_flowReceived l cell hr, if_pos (isA .flow hk), receive_qualify h, State.notUp]
    · rw [exec_mgmtReceived l cell hr, if_pos (isA .mgmt hk), receive_qualify h, State.notUp]
    · rw [exec_syncReceived l cell hr, if_pos (isA .sync hk), receive_qualify h, State.notUp]
    · rw [exec_testReceived l cell hr, if_pos (isA .test hk), receive_qualify h, State.notUp]
  · subst ht
    have isA := fun k => Cell.isA_of (t := k) (cell.headerOk_iff.2 hok)
    refine ⟨fun hk => ?_, fun hk => ?_, fun hk => ?_⟩
    · rw [exec_flowReceived l cell hr, if_pos (isA .flow hk), receive_service h, checked_failed hbad]
    · rw [exec_mgmtReceived l cell hr, if_pos (isA .mgmt hk), receive_service h, checked_failed hbad]
    · rw [exec_syncReceived l cell hr, if_pos (isA .sync hk), receive_service h, checked_failed hbad]
  · rw [ht, exec_idleReceived l cell hr, if_pos (Cell.isA_of (t := .idle) (cell.headerOk_iff.2 hok) htype), receive_examined h,
      State.takeIdle, checked_failed hbad]
  · have hmatch : ((s.countLink l .rxCells).port l).map.matchesIdle cell = m := by
      rw [countLink_map, ← he, Bool.eq_iff_iff, matchesIdle_iff, hm]
    rw [exec_idleReceived l cell hr, if_pos (Cell.isA_of (t := .idle) (cell.headerOk_iff.2 hok) htype), receive_examined h,
      State.takeIdle, checked_passed (cell.payloadOk_iff.2 hpay), hmatch]
  · rw [exec_markerReceived l cell hr, if_pos (Cell.isA_of (t := .marker) (cell.headerOk_iff.2 hok) htype), receive_examined h]
  · rw [exec_testReceived l cell hr, if_pos (Cell.isA_of (t := .test) (cell.headerOk_iff.2 hok) htype), receive_service h]

end Sys2Proof.Machine
end

section
/-! SUPPORT. Data cells (spec/03_route_sets_and_cell_resolution.md, R60 to R66): resolution by what the examination of the ACTIVE
entry finds. -/

namespace Sys2Proof.Machine

variable {s : State} {l : LinkId} {cell : Cell} {d : Dcn} {g : GroupId}

/-! ### Examination, in the order of its cases (R60, R64) -/

theorem examine_marked (intact valid : Bool) : examine true intact valid = .marked := rfl

theorem examine_failing (valid : Bool) : examine false false valid = .failing := rfl

theorem examine_invalid : examine false true false = .invalid := rfl

theorem examine_usable : examine false true true = .usable := rfl

/-! ### Counting a cell moves nothing that resolution reads -/

theorem countLink_isUp (k : LinkCounter) : (s.countLink l k).isUp = s.isUp := by
  funext m
  rw [State.isUp, State.isUp, countLink_unit]

theorem countLink_liveTarget (k : LinkCounter) (d : Dcn) : (s.countLink l k).liveTarget d = s.liveTarget d := by
  simp only [State.liveTarget, State.liveIndex, countLink_isUp, countLink_routes]

/-! ### Unicast (R62) -/

section
variable {c : ClassId}

theorem resolveUnicast_marked (h : s.routes.destBad[d] = true) :
    s.resolveUnicast l c cell d = s.countLink l .routeCheckDiscards := by
  simp only [State.resolveUnicast, State.examineDest, h, examine_marked]

theorem resolveUnicast_failing (hb : s.routes.destBad[d] = false) (hi : s.routes.active.dest[d].intact = false) :
    s.resolveUnicast l c cell d = (s.markDest d).countLink l .routeCheckDiscards := by
  simp only [State.resolveUnicast, State.examineDest, hb, hi, examine_failing]

theorem resolveUnicast_invalid (hb : s.routes.destBad[d] = false) (hi : s.routes.active.dest[d].intact = true)
    (hv : s.routes.active.dest[d].contents.valid = false) :
    s.resolveUnicast l c cell d = s.countLink l .unknownDest := by
  simp only [State.resolveUnicast, State.examineDest, hb, hi, hv, examine_invalid]

theorem resolveUnicast_unreachable (hb : s.routes.destBad[d] = false) (hi : s.routes.active.dest[d].intact = true)
    (hv : s.routes.active.dest[d].contents.valid = true) (ht : s.liveTarget d = none) :
    s.resolveUnicast l c cell d = s.countLink l .unreachable := by
  simp only [State.resolveUnicast, State.examineDest, hb, hi, hv, ht, examine_usable]

theorem resolveUnicast_target {target : Target} (hb : s.routes.destBad[d] = false)
    (hi : s.routes.active.dest[d].intact = true) (hv : s.routes.active.dest[d].contents.valid = true)
    (ht : s.liveTarget d = some target) :
    s.resolveUnicast l c cell d = (s.advancePointer d).admitUnicast l c cell target := by
  simp only [State.resolveUnicast, State.examineDest, hb, hi, hv, ht, examine_usable]

end

theorem takeDataU_unknown (h : 120 ≤ cell.header.dest.toNat) : s.takeDataU l cell = s.countLink l .unknownDest :=
  dif_neg (Nat.not_lt.2 h)

theorem takeDataU_dest (h : cell.header.dest.toNat = d.val) :
    s.takeDataU l cell = s.resolveUnicast l (Cell.classId cell) cell d := by
  obtain ⟨d, hd⟩ := d
  subst h
  exact dif_pos hd

/-- Settles O15: the cases of `resolveUnicast` in the state that has counted the cell. -/
theorem unicastCells : Obligations.UnicastCells := by
  intro s l cell s' hr hs hok htype hs'
  have hexec : exec (.dataUReceived l cell) s = .next ((s'.takeDataU l cell).report l .other) := by
    rw [exec_dataUReceived l cell hr, if_pos (Cell.isA_of (t := .dataU) (cell.headerOk_iff.2 hok) htype),
      receive_service hs, hs']
  have hroutes : s.routes = s'.routes := by rw [hs', countLink_routes]
  have hlive : ∀ d, s.liveTarget d = s'.liveTarget d := fun d => by rw [hs', countLink_liveTarget]
  rw [hexec]
  simp only [hroutes, hlive]
  refine ⟨fun h => by rw [takeDataU_unknown h], fun d hd => ?_⟩
  rw [takeDataU_dest hd]
  refine ⟨fun hb => ?_, fun hb hi => ?_, fun hb hi hv => ?_, fun hb hi hv => ⟨fun ht => ?_, fun target c ht hc => ?_⟩⟩
  · rw [resolveUnicast_marked hb]
  · rw [resolveUnicast_failing hb hi]; rfl
  · rw [resolveUnicast_invalid hb hi hv]
  · rw [resolveUnicast_unreachable hb hi hv ht]
  · have hclass : Cell.classId cell = c := Fin.ext hc.symm
    rw [resolveUnicast_target hb hi hv ht, hclass]

/-! ### Multicast (R64, R66) -/

section
variable {c : ClassId}

theorem resolveMulticast_marked (h : s.routes.groupBad[g] = true) :
    s.resolveMulticast l c cell g = s.countLink l .routeCheckDiscards := by
  simp only [State.resolveMulticast, State.examineGroup, h, examine_marked]

theorem resolveMulticast_failing (hb : s.routes.groupBad[g] = false) (hi : s.routes.active.group[g].intact = false) :
    s.resolveMulticast l c cell g = (s.markGroup g).countLink l .routeCheckDiscards := by
  simp only [State.resolveMulticast, State.examineGroup, hb, hi, examine_failing]

theorem resolveMulticast_invalid (hb : s.routes.groupBad[g] = false) (hi : s.routes.active.group[g].intact = true)
    (hv : s.routes.active.group[g].contents.valid = false) :
    s.resolveMulticast l c cell g = s.countLink l .unknownDest := by
  simp only [State.resolveMulticast, State.examineGroup, hb, hi, hv, examine_invalid]

theorem resolveMulticast_usable (hb : s.routes.groupBad[g] = false) (hi : s.routes.active.group[g].intact = true)
    (hv : s.routes.active.group[g].contents.valid = true) :
    s.resolveMulticast l c cell g =
      if (s.resolveMembers l g).targets = [] then (s.resolveMembers l g).state.countLink l .unreachable
      else (s.resolveMembers l g).state.admitMulticast l c cell (s.resolveMembers l g).targets := by
  simp only [State.resolveMulticast, State.examineGroup, hb, hi, hv, examine_usable, List.isEmpty_iff]

end

theorem takeDataM_unknown (h : 512 ≤ cell.header.dest.toNat) : s.takeDataM l cell = s.countLink l .unknownDest :=
  dif_neg (Nat.not_lt.2 h)

theorem takeDataM_group (h : cell.header.dest.toNat = g.val) :
    s.takeDataM l cell = s.resolveMulticast l (Cell.classId cell) cell g := by
  obtain ⟨g, hg⟩ := g
  subst h
  exact dif_pos hg

/-- Settles O17: the cases of `resolveMulticast` in the state that has counted the cell. -/
theorem multicastCells : Obligations.MulticastCells := by
  intro s l cell s' hr hs hok htype hs'
  have hexec : exec (.dataMReceived l cell) s = .next ((s'.takeDataM l cell).report l .other) := by
    rw [exec_dataMReceived l cell hr, if_pos (Cell.isA_of (t := .dataM) (cell.headerOk_iff.2 hok) htype),
      receive_service hs, hs']
  have hroutes : s.routes = s'.routes := by rw [hs', countLink_routes]
  rw [hexec]
  simp only [hroutes]
  refine ⟨fun h => by rw [takeDataM_unknown h], fun g hg => ?_⟩
  rw [takeDataM_group hg]
  refine ⟨fun hb => ?_, fun hb hi => ?_, fun hb hi hv => ?_, fun hb hi hv a ha => ⟨fun ht => ?_, fun c ht hc => ?_⟩⟩
  · rw [resolveMulticast_marked hb]
  · rw [resolveMulticast_failing hb hi]; rfl
  · rw [resolveMulticast_invalid hb hi hv]
  · rw [resolveMulticast_usable hb hi hv, ← ha, if_pos ht]
  · have hclass : Cell.classId cell = c := Fin.ext hc.symm
    rw [resolveMulticast_usable hb hi hv, ← ha, if_neg ht, hclass]

end Sys2Proof.Machine
end

section
/-! SUPPORT. The pins of the epoch unit and SYNC cells (spec/08_the_epoch.md, R154, R158, R159). -/

namespace Sys2Proof.Machine

variable {s : State} {l : LinkId} {elapsed : Nat}

/-! ### The EPOCH_IN pin (R158) -/

theorem pinRises_high (h : s.epoch.pinHigh = true) : s.pinRises elapsed = s := if_pos h

theorem pinRises_low (h : s.epoch.pinHigh = false) :
    s.pinRises elapsed =
      if s.param .epochSource = 1 ∧ s.epoch.monitor = .low then
        ((s.modEpoch fun e => { e with pinHigh := true }).externalEpoch none elapsed).modEpoch fun e =>
          { e with monitor := .high (s.epoch.period / 2) }
      else s.modEpoch fun e => { e with pinHigh := true } := by
  simp [State.pinRises, h, State.sourceIsPin]

theorem stuckExpiry_high {n : Nat} (h : s.epoch.monitor = .high n) :
    s.stuckExpiry = (s.modEpoch fun e => { e with monitor := .stuck }).latch .pinStuck := by
  simp only [State.stuckExpiry, h]

theorem stuckExpiry_stopped (h : ∀ n, s.epoch.monitor ≠ .high n) : s.stuckExpiry = s := by
  cases hm : s.epoch.monitor with
  | low | stuck => simp only [State.stuckExpiry, hm]
  | high n => exact absurd hm (h n)

/-! ### SYNC cells (R159) -/

section
variable {value : Half}

theorem takeSync_wrongLink (h : s.param .syncLink ≠ l.val) :
    s.takeSync l value elapsed = s.countElement .syncWrongLink := if_pos h

theorem takeSync_external (h : s.param .syncLink = l.val) (hsrc : s.param .epochSource = 2) :
    s.takeSync l value elapsed = s.externalEpoch (some value) elapsed := by
  rw [State.takeSync, if_neg (not_not.2 h), if_pos hsrc]

theorem takeSync_unused (h : s.param .syncLink = l.val) (hsrc : s.param .epochSource ≠ 2) :
    s.takeSync l value elapsed = s := by
  rw [State.takeSync, if_neg (not_not.2 h), if_neg hsrc]

end

/-- Settles O38: the pin in reset, the pins, and a good SYNC cell by the link and the source. -/
theorem pinEventsAndSyncCells : Obligations.PinEventsAndSyncCells := by
  refine ⟨fun s elapsed hr => ⟨congrArg _ (if_pos hr), rfl⟩, fun s elapsed hr => ?_,
    fun s l cell elapsed s' hr hs hok htype hpay hs' => ?_⟩
  · have rises : exec (.epochInRisingEdge elapsed) s = .next (s.pinRises elapsed) := congrArg _ (if_neg (by simp [hr]))
    have expires : exec .stuckTimerExpiry s = .next s.stuckExpiry := act_run _ hr
    rw [rises, expires]
    refine ⟨fun hp hsrc hm u hu => ?_, fun hp h => ?_, fun hp => ?_, rfl, fun n h => ?_, fun h => ?_, ?_⟩
    · rw [pinRises_low hp, if_pos ⟨hsrc, hm⟩, hu]; rfl
    · rw [pinRises_low hp, if_neg (by tauto)]; rfl
    · rw [pinRises_high hp]
    · rw [stuckExpiry_high h]; rfl
    · rw [stuckExpiry_stopped h]
    · exact act_run (fun s => s.modEpoch fun e => { e with out := none }) hr
  · have received : exec (.syncReceived l cell elapsed) s =
        .next ((s'.takeSync l (half (cell.byte 0) (cell.byte 1)) elapsed).report l .other) := by
      rw [exec_syncReceived l cell hr, if_pos (Cell.isA_of (t := .sync) hok htype), receive_service hs,
        checked_passed hpay, hs']
    have hparam : ∀ q, s.param q = s'.param q := fun q => by rw [hs', countLink_param]
    rw [received]
    simp only [hparam]
    refine ⟨fun h => ?_, fun h hsrc => ?_, fun h hsrc => ?_⟩
    · rw [takeSync_wrongLink h]
    · rw [takeSync_external h hsrc]; rfl
    · rw [takeSync_unused h hsrc]

end Sys2Proof.Machine
end

section
/-! SUPPORT. The grants of a FLOW cell (spec/06_congestion_signalling_and_credits.md, R127, R128): what the classes judged so far
have done to the link, kept as one class after another is judged. -/

namespace Sys2Proof.Machine

variable {s t : State} {l : LinkId} {g : ClassId → Byte} {c : ClassId} {cs : List ClassId}

/-! ### Counting and latching on one link (R181, R184, R189) -/

/-- R189: a counter of 32 bits counts 1 and stops at its limit. -/
theorem countUp_toNat_min (x : BitVec 32) : (countUp x).toNat = min 4294967295 (x.toNat + 1) := by
  by_cases h : x = BitVec.allOnes 32
  · subst h; rfl
  · have := (countUp x).isLt
    rw [countUp_toNat h] at this ⊢
    omega

/-- Counting leaves the counter at every other index, that of TEST_ERRORS apart, as it was. -/
theorem count_counters_ne (p : Port) {k : LinkCounter} {i : Fin 15} (h : i ≠ k.index) :
    (p.count k).counters[i] = p.counters[i] := by
  have : k.index.val ≠ i.val := fun e => h (Fin.ext e.symm)
  simp [Port.count, this]

theorem setBitAt_setBitAt {w : Nat} (x : BitVec w) (i : Nat) : setBitAt (setBitAt x i) i = setBitAt x i := by
  rw [setBitAt, setBitAt, BitVec.or_assoc, BitVec.or_self]

theorem linkFlag_bit_ne {f k : LinkFlag} (h : k ≠ f) : k.bit ≠ f.bit := by
  cases f <;> cases k <;> simp_all [LinkFlag.bit]

theorem latchLink_port_self (s : State) (l : LinkId) (f : LinkFlag) :
    (s.latchLink l f).port l = { s.port l with flags := setBitAt (s.port l).flags f.bit } := by
  unfold State.latchLink
  dsimp only
  split <;> simp

/-- R184: a link flag makes a notice pending when it was clear and its kind's mask is clear. -/
theorem latchLink_notice (s : State) (l : LinkId) (f : LinkFlag) :
    (s.latchLink l f).notice = { s.notice with
      pending := s.notice.pending || (!s.linkFlag l f && !s.notice.linkMasks.getLsbD f.bit) } := by
  unfold State.latchLink
  dsimp only
  split <;> rename_i h
  · simp [h, State.setNoticePending]
  · simp [h]

/-! ### One grant (R127, R128) -/

/-- R128: the grant of a class is not accepted. -/
def Port.rejectsGrant (p : Port) (g : ClassId → Byte) (c : ClassId) : Bool :=
  decide (p.map.creditMax.toNat < (g c - p.credit.sent[c]).toNat)

theorem acceptsGrant_eq_not_rejectsGrant (p : Port) : p.acceptsGrant c (g c) = !p.rejectsGrant g c := by
  simp only [Port.acceptsGrant, Port.rejectsGrant, ← decide_not, Nat.not_lt]

theorem judgeGrant_accepted (h : (s.port l).rejectsGrant g c = false) :
    s.judgeGrant l c (g c) =
      s.modPort l fun p => { p with credit := { p.credit with granted := p.credit.granted.set c (g c) } } := by
  rw [State.judgeGrant, acceptsGrant_eq_not_rejectsGrant, h]; rfl

theorem judgeGrant_rejected (h : (s.port l).rejectsGrant g c = true) :
    s.judgeGrant l c (g c) = (s.countLink l .creditRejects).latchLink l .creditError := by
  rw [State.judgeGrant, acceptsGrant_eq_not_rejectsGrant, h]; rfl

/-! ### The grants judged so far -/

/-- The grants `g` of the classes `cs` have been judged on link `l`, from the state `s` to the state `t`. -/
structure GrantsJudged (s : State) (l : LinkId) (g : ClassId → Byte) (cs : List ClassId) (t : State) : Prop where
  granted : ∀ c : ClassId, (t.port l).credit.granted[c] =
    if c ∈ cs ∧ (s.port l).rejectsGrant g c = false then g c else (s.port l).credit.granted[c]
  sent : (t.port l).credit.sent = (s.port l).credit.sent
  rejects : ((t.port l).counters[(14 : Fin 15)]).toNat =
    min 4294967295 (((s.port l).counters[(14 : Fin 15)]).toNat + cs.countP ((s.port l).rejectsGrant g))
  counters : ∀ i : Fin 15, i ≠ 14 → (t.port l).counters[i] = (s.port l).counters[i]
  flags : (t.port l).flags =
    if cs.any ((s.port l).rejectsGrant g) then setBitAt (s.port l).flags LinkFlag.creditError.bit else (s.port l).flags
  port : t.port l = { s.port l with
    credit := (t.port l).credit, counters := (t.port l).counters, flags := (t.port l).flags }
  others : ∀ m, m ≠ l → t.port m = s.port m
  notice : t.notice = { s.notice with
    pending := s.notice.pending || (cs.any ((s.port l).rejectsGrant g) && !s.linkFlag l .creditError &&
      !s.notice.linkMasks.getLsbD LinkFlag.creditError.bit) }
  frame : t = { s with ports := t.ports, notice := t.notice }

theorem GrantsJudged.none : GrantsJudged s l g [] s where
  granted c := by simp
  sent := rfl
  rejects := by
    have := ((s.port l).counters[(14 : Fin 15)]).isLt
    simp only [List.countP_nil, Nat.add_zero]
    omega
  counters i _ := rfl
  flags := by simp
  port := rfl
  others m _ := rfl
  notice := by simp
  frame := rfl

/-- Neither CREDIT_MAX nor S has moved, so a later class is judged as in the first state. -/
theorem GrantsJudged.rejectsGrant_eq (h : GrantsJudged s l g cs t) :
    (t.port l).rejectsGrant g = (s.port l).rejectsGrant g := by
  have hmap : (t.port l).map = (s.port l).map := by rw [h.port]
  funext c
  rw [Port.rejectsGrant, Port.rejectsGrant, hmap, h.sent]

theorem GrantsJudged.linkFlag_eq (h : GrantsJudged s l g cs t) :
    t.linkFlag l .creditError = (s.linkFlag l .creditError || cs.any ((s.port l).rejectsGrant g)) := by
  rw [State.linkFlag, h.flags]
  split <;> rename_i ha
  · rw [setBitAt_self _ (by decide), ha, Bool.or_true]
  · rw [Bool.eq_false_iff.2 ha, Bool.or_false]; rfl

theorem GrantsJudged.accepted (h : GrantsJudged s l g cs t) (hc : (s.port l).rejectsGrant g c = false) :
    GrantsJudged s l g (cs ++ [c]) (t.judgeGrant l c (g c)) := by
  rw [judgeGrant_accepted (by rw [h.rejectsGrant_eq, hc])]
  constructor
  case granted =>
    intro k
    by_cases hk : k = c
    · subst hk; simp [hc]
    · have : c.val ≠ k.val := fun e => hk (Fin.ext e.symm)
      have := h.granted k
      simp_all
  case sent => simpa using h.sent
  case rejects => simpa [List.countP_append, hc] using h.rejects
  case counters => simpa using h.counters
  case flags => simpa [hc] using h.flags
  case port => rw [port_modPort_self, h.port]
  case others => exact fun m hm => (port_modPort_ne hm _).trans (h.others m hm)
  case notice => simpa [hc] using h.notice
  case frame => rw [h.frame]; rfl

theorem GrantsJudged.rejected (h : GrantsJudged s l g cs t) (hc : (s.port l).rejectsGrant g c = true) :
    GrantsJudged s l g (cs ++ [c]) (t.judgeGrant l c (g c)) := by
  rw [judgeGrant_rejected (by rw [h.rejectsGrant_eq, hc])]
  constructor
  case granted =>
    intro k
    have := h.granted k
    simp only [latchLink_port_self, port_countLink_self, Port.count, this, List.mem_append, List.mem_singleton]
    by_cases hk : k = c
    · subst hk; simp [hc]
    · simp [hk]
  case sent => rw [latchLink_port_self, port_countLink_self]; exact h.sent
  case rejects =>
    rw [latchLink_port_self, port_countLink_self]
    refine (congrArg BitVec.toNat (count_self (t.port l) .creditRejects)).trans ?_
    have := h.rejects
    simp only [countUp_toNat_min, LinkCounter.index, this, List.countP_append, List.countP_singleton, hc]
    simp
    omega
  case counters =>
    intro i hi
    rw [latchLink_port_self, port_countLink_self, ← h.counters i hi]
    exact count_counters_ne (t.port l) (k := .creditRejects) hi
  case flags =>
    rw [latchLink_port_self, port_countLink_self]
    have := h.flags
    simp only [Port.count, this, List.any_append, List.any_cons, hc, Bool.true_or, Bool.or_true, if_true]
    split
    · rw [setBitAt_setBitAt]
    · rfl
  case port => rw [latchLink_port_self, port_countLink_self, h.port]; rfl
  case others =>
    exact fun m hm => (latchLink_port_ne _ hm _).trans ((port_countLink_ne hm _).trans (h.others m hm))
  case notice =>
    have hflag : (t.countLink l .creditRejects).linkFlag l .creditError = t.linkFlag l .creditError := by
      rw [State.linkFlag, port_countLink_self]; rfl
    rw [latchLink_notice, hflag, h.linkFlag_eq, countLink_notice, h.notice]
    simp only [List.any_append, List.any_cons, hc, Bool.true_or, Bool.or_true]
    cases cs.any ((s.port l).rejectsGrant g) <;> simp
  case frame => rw [latchLink_frame, h.frame]; rfl

theorem grantsJudged_foldl (s : State) (l : LinkId) (g : ClassId → Byte) (cs : List ClassId) :
    GrantsJudged s l g cs (cs.foldl (fun t c => t.judgeGrant l c (g c)) s) := by
  induction cs using List.reverseRecOn with
  | nil => exact GrantsJudged.none
  | append_singleton cs c ih =>
    rw [List.foldl_append]
    cases hc : (s.port l).rejectsGrant g c with
    | false => exact ih.accepted hc
    | true => exact ih.rejected hc

theorem rejectsGrant_iff (p : Port) :
    p.rejectsGrant g c = true ↔ p.map.creditMax.toNat < (g c - p.credit.sent[c]).toNat := decide_eq_true_iff

theorem any_rejectsGrant_iff (p : Port) : allClasses.any (p.rejectsGrant g) = true ↔
    ∃ c : ClassId, p.map.creditMax.toNat < (g c - p.credit.sent[c]).toNat := by
  have mem : ∀ c : ClassId, c ∈ allClasses := by decide
  simp only [List.any_eq_true, rejectsGrant_iff, mem, true_and]

theorem linkFlag_of_setBitAt {p : BitVec 5} {x : Bool} {f k : LinkFlag} (h : k ≠ f) :
    (if x then setBitAt p f.bit else p).getLsbD k.bit = p.getLsbD k.bit := by
  split
  · rw [setBitAt_ne _ (linkFlag_bit_ne h)]
  · rfl

/-- Settles O28: `GrantsJudged` of the four classes, between the count in RX_CELLS and the report. -/
theorem creditGrants : Obligations.CreditGrants := by
  intro s l cell hr hs hok htype hpay
  set g : ClassId → Byte := fun c => cell.byte c.val
  have judged : GrantsJudged (s.countLink l .rxCells) l g allClasses ((s.countLink l .rxCells).takeFlow l cell) :=
    grantsJudged_foldl _ l g allClasses
  have hsrv : (((s.countLink l .rxCells).takeFlow l cell).port l).unit.state = .up ∨
      (((s.countLink l .rxCells).takeFlow l cell).port l).unit.state = .draining := by
    rw [judged.port, port_countLink_self]; exact hs
  have received : exec (.flowReceived l cell) s = .next (((s.countLink l .rxCells).takeFlow l cell).modUnit l fun u =>
      { u with markerRun := 0 }) := by
    rw [exec_flowReceived l cell hr, if_pos (Cell.isA_of (t := .flow) hok htype), receive_service hs, checked_passed hpay,
      report_other_service hsrv]
  generalize (s.countLink l .rxCells).takeFlow l cell = t at judged received
  have hcounted : ((s.port l).count .rxCells).counters[(14 : Fin 15)] = (s.port l).counters[(14 : Fin 15)] :=
    count_counters_ne _ (by decide)
  have hrejects : ((s.port l).count .rxCells).rejectsGrant g = (s.port l).rejectsGrant g := rfl
  have hwas : (s.countLink l .rxCells).linkFlag l .creditError = s.linkFlag l .creditError := by
    rw [State.linkFlag, port_countLink_self]; rfl
  obtain ⟨hgranted, hsent, hcount, hothers, hflags, hport, hports, hnotice, hframe⟩ := judged
  simp only [port_countLink_self, hrejects, hcounted, hwas] at hgranted hsent hcount hothers hflags hport hports hnotice
  refine ⟨_, received, ?_⟩
  simp only [State.linkFlag, port_modUnit_self, modUnit_notice]
  refine ⟨fun c => ⟨?_, by simp only [hsent]; rfl⟩, hcount, ?_, ?_, fun i h0 h14 => ?_, fun f hf => ?_, by rw [hport]; rfl,
    fun m hm => ?_, fun r hr => ?_, by rw [hframe]; rfl⟩
  · have hall : c ∈ allClasses := by revert c; decide
    rw [hgranted c]
    simp only [hall, true_and, Port.rejectsGrant, decide_eq_false_iff_not, Nat.not_lt]
    rfl
  · rw [hflags, ← any_rejectsGrant_iff (g := g)]
    split <;> rename_i h
    · simp [h, setBitAt_self _ (show LinkFlag.creditError.bit < 5 by decide)]
    · simp only [h, Bool.false_eq_true, or_false]; rfl
  · rw [hothers 0 (by decide), ← countUp_toNat_min]
    exact congrArg BitVec.toNat (count_self (s.port l) .rxCells)
  · rw [hothers i h14]
    exact count_counters_ne (s.port l) (k := .rxCells) h0
  · rw [hflags, linkFlag_of_setBitAt hf]; rfl
  · rw [port_modUnit_ne hm, hports m hm, port_countLink_ne hm]
  · have hany : allClasses.any ((s.port l).rejectsGrant g) = r := by
      rw [Bool.eq_iff_iff, any_rejectsGrant_iff, hr]
    rw [hnotice, hany]; rfl

end Sys2Proof.Machine
end

section
/-! SUPPORT. The test pattern and its checker (spec/01_cells.md, R12; spec/02_fabric_links.md, R46). -/

namespace Sys2Proof.Machine

variable {s : State} {l : LinkId} {cell : Cell} {g : BitVec 31}

/-! ### The pattern, bit by bit (R12) -/

section
variable {b : Nat → Bool} (hg : ∀ i, i < 31 → b i = g.getLsbD (30 - i)) (hb : ∀ n, b (n + 31) = (b (n + 3) != b n))
include hg hb

/-- After n bits the generator holds the 31 bits of the sequence from the n-th on, the oldest in bit 30. -/
theorem patternAdvance_getLsbD (n : Nat) {i : Nat} (hi : i < 31) : (patternAdvance n g).getLsbD (30 - i) = b (n + i) := by
  induction n generalizing i with
  | zero => rw [Nat.zero_add, hg i hi]; rfl
  | succ n ih =>
    rw [patternAdvance_succ, patternPush_getLsbD _ _ (by omega)]
    split <;> rename_i h
    · have new : patternBit (patternAdvance n g) = (b (n + 3) != b n) :=
        congrArg₂ (· != ·) (ih (i := 3) (by omega)) (ih (i := 0) (by omega))
      rw [new, ← hb, show n + 1 + i = n + 31 by omega]
    · rw [show 30 - i - 1 = 30 - (i + 1) by omega, ih (by omega), show n + (i + 1) = n + 1 + i by omega]

theorem patternBit_patternAdvance (n : Nat) : patternBit (patternAdvance n g) = b (31 + n) := by
  rw [Nat.add_comm, hb]
  exact congrArg₂ (· != ·) (patternAdvance_getLsbD hg hb n (i := 3) (by omega))
    (patternAdvance_getLsbD hg hb n (i := 0) (by omega))

end

theorem patternBits_length (n : Nat) (g : BitVec 31) : (patternBits n g).length = n := by
  induction n generalizing g with
  | zero => rfl
  | succ n ih => rw [patternBits, List.length_cons, ih]

theorem patternBits_getD (n : Nat) (g : BitVec 31) {i : Nat} (hi : i < n) :
    (patternBits n g).getD i false = patternBit (patternAdvance i g) := by
  induction n generalizing g i with
  | zero => omega
  | succ n ih =>
    rw [patternBits]
    cases i with
    | zero => rfl
    | succ i => rw [List.getD_cons_succ, ih _ (by omega)]; rfl

theorem patternPayload_toList (g : BitVec 31) : (patternPayload g).toList = bytesOfBits 64 (patternBits 512 g) :=
  padTo_of_length (bytesOfBits_length ..)

/-- R46: the seed is the last 31 bits of the payload, the oldest in bit 30. -/
theorem patternSeed_getLsbD (c : Cell) {i : Nat} (hi : i < 31) :
    (patternSeed c).getLsbD (30 - i) = (c.byte ((481 + i) / 8)).getLsbD (7 - (481 + i) % 8) := by
  have h31 : 30 - i < 31 := by omega
  simp only [patternSeed, BitVec.getLsbD_setWidth, h31, decide_true, Bool.true_and, BitVec.getLsbD_append]
  split
  · rw [show (481 + i) / 8 = 63 by omega, show 7 - (481 + i) % 8 = 30 - i by omega]
  · split
    · rw [show (481 + i) / 8 = 62 by omega, show 7 - (481 + i) % 8 = 30 - i - 8 by omega]
    · split
      · rw [show (481 + i) / 8 = 61 by omega, show 7 - (481 + i) % 8 = 30 - i - 8 - 8 by omega]
      · rw [show (481 + i) / 8 = 60 by omega, show 7 - (481 + i) % 8 = 30 - i - 8 - 8 - 8 by omega]

/-! ### The checker of a link in TEST (R46) -/

theorem judgeBad_eq (p : Port) (g : BitVec 31) (n : Nat) :
    p.judgeBad g n =
      { p with
        testErrors := if p.testErrors = 65535 then p.testErrors else p.testErrors + 1
        unit := { p.unit with
          checker := if n + 1 = 8 ∨ 8 < n + 1 then .unseeded else .tracking (patternAdvance 512 g) (n + 1) } } := by
  have h : (8 ≤ n + 1) = (n + 1 = 8 ∨ 8 < n + 1) := propext (by omega)
  simp only [Port.judgeBad, h]
  rfl

section
variable {p : Port}

theorem checkTestCell_unseeded (h : p.unit.checker = .unseeded) :
    p.checkTestCell cell = { p with unit := { p.unit with checker := .tracking (patternSeed cell) 0 } } := by
  simp only [Port.checkTestCell, h]

theorem checkTestCell_good {n : Nat} (h : p.unit.checker = .tracking g n) (hc : cell.payload = patternPayload g) :
    p.checkTestCell cell = { p with unit := { p.unit with checker := .tracking (patternAdvance 512 g) 0 } } := by
  simp only [Port.checkTestCell, h, hc, if_true]

theorem checkTestCell_bad {n : Nat} (h : p.unit.checker = .tracking g n) (hc : cell.payload ≠ patternPayload g) :
    p.checkTestCell cell = p.judgeBad g n := by
  simp only [Port.checkTestCell, h, hc, if_false]

theorem checkDamaged_unseeded (h : p.unit.checker = .unseeded) : p.checkDamaged = p := by
  simp only [Port.checkDamaged, h]

theorem checkDamaged_tracking {n : Nat} (h : p.unit.checker = .tracking g n) : p.checkDamaged = p.judgeBad g n := by
  simp only [Port.checkDamaged, h]

end

/-- Settles O12: the pattern by `patternAdvance_getLsbD`, the seed, and the checker's equations. -/
theorem testChecker : Obligations.TestChecker := by
  refine ⟨fun g b hg hb => ⟨fun i hi => ?_, fun i hi => patternAdvance_getLsbD hg hb 512 hi⟩,
    fun cell i hi => patternSeed_getLsbD cell hi, fun s l cell p hr hp htest => ⟨fun hok htype => ?_, fun hbad => ?_⟩⟩
  · rw [patternPayload_toList, bytesOfBits_getLsbD (by rw [patternBits_length]) hi, patternBits_getD _ _ hi,
      patternBit_patternAdvance hg hb]
  · subst hp
    rw [exec_testReceived l cell hr, if_pos (Cell.isA_of (t := .test) hok htype), receive_test htest]
    refine ⟨fun h => ?_, fun g n h hc => ?_, fun g n h hc => ?_⟩
    · exact congrArg _ (modPort_congr (checkTestCell_unseeded h))
    · exact congrArg _ (modPort_congr (checkTestCell_good h hc))
    · exact congrArg _ (modPort_congr ((checkTestCell_bad h hc).trans (judgeBad_eq ..)))
  · subst hp
    rw [exec_damagedCellReceived l cell hr, if_pos (by rw [hbad]; rfl), receive_test htest]
    refine ⟨fun h => ?_, fun g n h => ?_⟩
    · exact congrArg _ (modPort_of_fixed (checkDamaged_unseeded h))
    · exact congrArg _ (modPort_congr ((checkDamaged_tracking h).trans (judgeBad_eq ..)))

end Sys2Proof.Machine
end

section
/-! SUPPORT. The cells the element builds, byte by byte (spec/01_cells.md, R8, R9, R11, R14, R15). -/

namespace Sys2Proof

/-! ### Built headers and checked payloads (R3, R5, R6) -/

theorem headerOk_of_build {c : Cell} {t : CellType} {x : BitVec 40} (h : c.header = Header.build t x) : c.headerOk = true := by
  rw [Cell.headerOk_iff, h]
  rfl

theorem checkedPayload_toList (body : List Byte) :
    (checkedPayload body).toList = padTo 62 body ++ bytes16 (crc16 (padTo 62 body)) :=
  padTo_of_length (by rw [List.length_append, padTo_length, bytes16_length])

section
variable {c : Cell} {body : List Byte} (h : c.payload = checkedPayload body)
include h

theorem byte_of_checkedPayload {i : Nat} (hi : i < 62) : c.byte i = byteAt body i := by
  rw [Cell.byte, h, checkedPayload_toList, byteAt_append_left _ (by rwa [padTo_length]), byteAt_padTo _ hi]

theorem payloadOk_of_checkedPayload : c.payloadOk = true := by
  have last (i : Nat) : c.byte (62 + i) = byteAt (bytes16 (crc16 (padTo 62 body))) i := by
    rw [Cell.byte, h, checkedPayload_toList, byteAt_append_add (padTo_length ..)]
  rw [Cell.payloadOk_iff, h, checkedPayload_toList, List.take_left' (padTo_length ..), last 0, last 1]
  exact (half_hiByte_loByte _).symm

end

end Sys2Proof

namespace Sys2Proof.Machine

variable {s : State} {l : LinkId} {d : Dcn} {c : ClassId}

/-! ### IDLE, MARKER and TEST cells (R9, R11, R12) -/

theorem idleCell_byte (s : State) (l : LinkId) {i : Nat} (hi : i < 62) :
    (s.idleCell l).byte i =
      byteAt [2, s.identityByte, natByte l.val, hiByte s.epoch.count, loByte s.epoch.count, s.epoch.sync.code] i :=
  byte_of_checkedPayload rfl hi

theorem idleCell_hchk (s : State) (l : LinkId) : (s.idleCell l).header.hchk = 0 := by
  have : (Header.build .idle 0).hchk = 0 := by decide +kernel
  exact this

theorem natByte_toNat {n : Nat} (h : n < 256) : (natByte n).toNat = n := by
  rw [natByte, BitVec.toNat_ofNat, Nat.mod_eq_of_lt h]

theorem markerCell_byte {i : Nat} (hi : i < 64) : markerCell.byte i = 0 := by
  rw [Cell.byte, markerCell, payloadOf_toList, byteAt_padTo _ hi, byteAt_nil]

/-! ### A readiness outside UP and DRAINING (R12, R44, R135) -/

theorem squelch_eq (s : State) (l : LinkId) :
    s.squelch l = if s.param .squelchMode = 0 then .idle else if s.param .squelchMode = 1 then .marker
      else if s.param .squelchMode = 2 then .silent else (s.port l).map.squelch := by
  unfold State.squelch
  split <;> simp_all

theorem sendTest_eq (s : State) (l : LinkId) :
    s.sendTest l = s.modPort l fun p =>
      { p with transmitter := some (testCell p.unit.generator)
               unit := { p.unit with generator := patternAdvance 512 p.unit.generator } } := by
  rw [State.sendTest, State.hand, State.modUnit, modPort_modPort]
  exact modPort_congr rfl

/-- Settles O29: the bytes of the three cells, then the readiness by the state of the link. -/
theorem readinessOutOfService : Obligations.ReadinessOutOfService := by
  refine ⟨fun s l x hx => ?_, ⟨rfl, rfl, rfl, rfl, headerOk_of_build rfl, fun i hi => markerCell_byte hi⟩, fun g x hx => ?_,
    fun s l hr => ?_, fun s l hr => ?_⟩
  · subst hx
    refine ⟨rfl, rfl, rfl, rfl, idleCell_hchk s l, headerOk_of_build rfl, payloadOk_of_checkedPayload rfl,
      idleCell_byte s l (by decide), idleCell_byte s l (by decide), ?_, ?_, ?_, fun i h6 hi => ?_⟩
    · rw [idleCell_byte s l (by decide)]
      exact natByte_toNat (by omega)
    · rw [idleCell_byte s l (by decide), idleCell_byte s l (by decide)]
      exact half_hiByte_loByte _
    · rw [idleCell_byte s l (by decide)]
      cases s.epoch.sync <;> rfl
    · rw [idleCell_byte s l hi, byteAt_of_le (by simpa using h6)]
  · subst hx
    exact ⟨rfl, rfl, rfl, rfl, headerOk_of_build rfl, rfl⟩
  · exact congrArg _ (if_pos hr)
  · have hready : exec (.transmitReady l) s = .next (s.ready l) := congrArg _ (if_neg (by simp [hr]))
    rw [hready]
    refine ⟨fun h => ?_, fun h => ?_, fun h => ?_, fun h mode hmode => ?_⟩
    · simp only [State.ready, h]; rfl
    · rcases h with h | h | h <;> (simp only [State.ready, h]; rfl)
    · simp only [State.ready, h, sendTest_eq]
    · rw [hmode, ← squelch_eq]
      simp only [State.ready, h]
      rfl

/-! ### The congestion map and the FLOW cell (R8, R116 to R118) -/

theorem linkOfByte_eq_some {b : Byte} : linkOfByte b = some l ↔ b = BitVec.ofNat 8 l.val := by
  have hl := l.isLt
  unfold linkOfByte
  split <;> rename_i h
  · rw [Option.some_inj, Fin.ext_iff, ← BitVec.toNat_inj, BitVec.toNat_ofNat, Nat.mod_eq_of_lt (by omega)]
  · simp only [reduceCtorEq, false_iff]
    rintro rfl
    exact h (by rw [BitVec.toNat_ofNat]; omega)

theorem mem_destLinks {e : DestContents} :
    l ∈ destLinks e ↔ BitVec.ofNat 8 l.val ∈ e.members.toList.take (min 4 e.count.toNat) := by
  simp [destLinks, linkOfByte_eq_some]

theorem isUp_iff : s.isUp l = true ↔ (s.port l).unit.state = .up := beq_iff_eq

/-- R116: XOFF for an invalid or marked entry, no live member, a live member's queue in XOFF, or congestion above class 0. -/
theorem mapBit_iff :
    s.mapBit d c = true ↔ s.routes.active.dest[d].contents.valid = false ∨ s.routes.destBad[d] = true ∨
      (∀ l ∈ destLinks s.routes.active.dest[d].contents, s.isUp l = false) ∨
      (∃ l ∈ destLinks s.routes.active.dest[d].contents, s.isUp l = true ∧ (s.port l).queues.xoff[c] = true) ∨
      (c ≠ 0 ∧ s.buffer.congested = true) := by
  simp [State.mapBit, or_assoc]

/-- The place in a concatenation of parts of one length: the part by the quotient, the place in it by the remainder. -/
theorem getD_flatMap_finRange {m n : Nat} (f : Fin m → List Bool) (hf : ∀ x, (f x).length = n) (i : Fin m) {j : Nat}
    (hj : j < n) : ((List.finRange m).flatMap f).getD (n * i.val + j) false = (f i).getD j false := by
  induction m with
  | zero => exact i.elim0
  | succ m ih =>
    rw [List.finRange_succ, List.flatMap_cons, List.flatMap_map]
    induction i using Fin.cases with
    | zero => simp [List.getElem?_append_left, hf, hj]
    | succ i =>
      have h : n * (i.succ).val + j - n = n * i.val + j := by rw [Fin.val_succ, Nat.mul_succ]; omega
      rw [List.getD_eq_getElem?_getD, List.getElem?_append_right (by rw [hf, Fin.val_succ, Nat.mul_succ]; omega), hf, h,
        ← List.getD_eq_getElem?_getD]
      exact ih (fun x => f x.succ) (fun x => hf x.succ) i

theorem mapBits_length (s : State) : s.mapBits.length = 480 := by
  simp [State.mapBits, allClasses, List.length_flatMap]

theorem mapBits_getD (s : State) (d : Dcn) (c : ClassId) : s.mapBits.getD (4 * d.val + c.val) false = s.mapBit d c := by
  rw [State.mapBits, getD_flatMap_finRange (n := 4) _ (fun _ => rfl) d c.isLt]
  fin_cases c <;> rfl

theorem flowCell_byte (s : State) {i : Nat} (hi : i < 62) :
    s.flowCell.byte i = byteAt (bytes16 s.epoch.count ++ bytesOfBits 60 s.mapBits) i :=
  byte_of_checkedPayload rfl hi

/-- Settles O27: the map bit as `mapBit_iff` gives it, its place by `mapBits_getD`. -/
theorem flowCellAndCongestionMap : Obligations.FlowCellAndCongestionMap := by
  refine ⟨fun s d c e live he hlive => ?_, fun s => ⟨rfl, rfl, rfl, rfl, headerOk_of_build rfl,
    payloadOk_of_checkedPayload rfl, ?_, fun d c => ?_⟩⟩
  · subst he
    rw [mapBit_iff]
    have none_live : (∀ l ∈ destLinks s.routes.active.dest[d].contents, s.isUp l = false) ↔ ∀ l, ¬ live l := by
      simp only [hlive, ← mem_destLinks, ← isUp_iff, not_and', Bool.not_eq_true]
    have live_xoff : (∃ l ∈ destLinks s.routes.active.dest[d].contents,
        s.isUp l = true ∧ (s.port l).queues.xoff[c] = true) ↔ ∃ l, live l ∧ (s.port l).queues.xoff[c] = true := by
      simp only [hlive, ← mem_destLinks, ← isUp_iff, and_assoc, and_left_comm]
    rw [none_live, live_xoff]
  · rw [flowCell_byte s (by decide), flowCell_byte s (by decide)]
    exact half_hiByte_loByte _
  · have hi : 4 * d.val + c.val < 8 * 60 := by omega
    rw [flowCell_byte s (by omega), byteAt_append_add (bytes16_length _), bytesOfBits_getLsbD (by rw [mapBits_length]) hi,
      mapBits_getD]

end Sys2Proof.Machine
end

section
/-! SUPPORT. Control queues (spec/07_link_transmit_scheduling.md, R138, R139): responses, notices and what empties a queue; and
ALARM_N (spec/10_flags_notices_and_counters.md, R188). -/

namespace Sys2Proof.Machine

variable {s : State} {l : LinkId}

/-! ### Responses (R14, R167) -/

theorem inService_iff {x : LinkState} : x.inService = true ↔ x = .up ∨ x = .draining := by
  cases x <;> simp [LinkState.inService]

theorem takesControl_of {p : Port} (hs : p.unit.state = .up ∨ p.unit.state = .draining) (h : p.sched.control.length < 4) :
    p.takesControl = true := (takesControl_iff p).2 ⟨inService_iff.2 hs, h⟩

theorem takesControl_false {p : Port}
    (h : (p.unit.state ≠ .up ∧ p.unit.state ≠ .draining) ∨ 4 ≤ p.sched.control.length) : p.takesControl = false := by
  rw [Bool.eq_false_iff, Ne, takesControl_iff, inService_iff, not_and_or, not_or, Nat.not_lt]
  exact h

section
variable {context : BitVec 40} {tag command : Byte} {status : Status} {index : Half} {count arg : Byte} {data : List Byte}

theorem responseCell_byte {i : Nat} (hi : i < 62) :
    (s.responseCell context tag command status index count arg data).byte i =
      byteAt ([s.identityByte, tag, command, status.code, hiByte index, loByte index, count, arg] ++ padTo 54 data) i :=
  byte_of_checkedPayload rfl hi

theorem responseCell_data {i : Nat} (hi : i < 54) :
    (s.responseCell context tag command status index count arg data).byte (8 + i) = data.getD i 0 := by
  rw [responseCell_byte (by omega), byteAt_append_add (n := 8) rfl, byteAt_padTo _ hi]
  rfl

end

/-! ### Emptying a control queue (R139) -/

/-- R189: n counts raise a counter by n, up to its limit, and no other counter. -/
theorem countElementTimes_counters (s : State) (k : ElementCounter) (n : Nat) (i : Fin 6) :
    ((s.countElementTimes k n).elementCounters[i]).toNat =
      if i = k.index then min 4294967295 ((s.elementCounters[i]).toNat + n) else (s.elementCounters[i]).toNat := by
  induction n generalizing s with
  | zero =>
    have := (s.elementCounters[i]).isLt
    rw [State.countElementTimes]
    split <;> omega
  | succ n ih =>
    rw [State.countElementTimes, ih]
    split <;> rename_i h
    · subst h
      simp only [countElement_elementCounters, Fin.getElem_fin, Vector.getElem_set_self, countUp_toNat_min]
      omega
    · have : k.index.val ≠ i.val := fun e => h (Fin.ext e.symm)
      simp [this]

theorem countElementTimes_modPort (s : State) (k : ElementCounter) (n : Nat) (l : LinkId) (f : Port → Port) :
    (s.modPort l f).countElementTimes k n = (s.countElementTimes k n).modPort l f := by
  induction n generalizing s with
  | zero => rfl
  | succ n ih => exact ih (s.countElement k)

/-- R139: the queue is empty, its responses are counted, and a notice in it is made pending again. -/
theorem emptyControl_eq (s : State) (l : LinkId) :
    s.emptyControl l = { s.modPort l fun p => { p with sched := { p.sched with control := [] } } with
      elementCounters :=
        (s.countElementTimes .responseDrops ((s.port l).sched.control.countP fun x => x.kind == .response)).elementCounters
      notice := { s.notice with
        pending := s.notice.pending || (s.port l).sched.control.any fun x => x.kind == .notice } } := by
  rw [State.emptyControl, countElementTimes_modPort, countElementTimes_frame]
  split <;> rename_i h
  · rw [h, Bool.or_true]; rfl
  · rw [Bool.eq_false_iff.2 h, Bool.or_false]; rfl

theorem emptyControl_port_self (s : State) (l : LinkId) :
    (s.emptyControl l).port l = { s.port l with sched := { (s.port l).sched with control := [] } } := by
  rw [emptyControl_eq]
  exact port_modPort_self s l fun p => { p with sched := { p.sched with control := [] } }

theorem emptyControl_port_ne {m : LinkId} (h : m ≠ l) : (s.emptyControl l).port m = s.port m := by
  rw [emptyControl_eq]
  exact port_modPort_ne h fun p => { p with sched := { p.sched with control := [] } }

/-- Settles O40: the response by `takesControl`, its bytes, and `emptyControl_eq`. -/
theorem controlQueue : Obligations.ControlQueue := by
  refine ⟨fun s r status data x hx => ⟨fun hs hlen => ?_, fun h => ?_, ?_⟩, fun s l t ht => ?_⟩
  · rw [State.respond, if_pos (takesControl_of hs hlen), hx]; rfl
  · rw [State.respond, takesControl_false h]; rfl
  · subst hx
    refine ⟨rfl, rfl, rfl, rfl, headerOk_of_build rfl, payloadOk_of_checkedPayload rfl, responseCell_byte (by decide),
      responseCell_byte (by decide), responseCell_byte (by decide),
      responseCell_byte (by decide), ?_, responseCell_byte (by decide),
      responseCell_byte (by decide), fun i hi => responseCell_data hi⟩
    rw [responseCell_byte (by decide), responseCell_byte (by decide)]
    exact half_hiByte_loByte _
  · subst ht
    refine ⟨emptyControl_port_self s l, fun m hm => emptyControl_port_ne hm, ?_, fun i hi => BitVec.eq_of_toNat_eq ?_, ?_,
      emptyControl_frame s l⟩ <;> rw [emptyControl_eq]
    · exact (countElementTimes_counters ..).trans (if_pos rfl)
    · exact (countElementTimes_counters ..).trans (if_neg hi)

/-! ### Notices (R15, R185) -/

theorem noticeCell_byte (s : State) (e : Half) {i : Nat} (hi : i < 62) :
    (s.noticeCell e).byte i =
      byteAt ([s.identityByte, 0, 0x80, 0, hiByte e, loByte e, 0, 0, hiByte s.notice.flags, loByte s.notice.flags,
        s.notice.resetKind.code] ++ bytesOfBits 8 s.linkSet) i :=
  byte_of_checkedPayload rfl hi

theorem linkSet_length (s : State) : s.linkSet.length = 64 := by simp [State.linkSet, allLinks]

theorem linkSet_getD (s : State) (l : LinkId) : s.linkSet.getD (63 - l.val) false = decide ((s.port l).flags ≠ 0) := by
  have h : 63 - l.val < 64 := by omega
  have hl : 63 - (63 - l.val) = l.val := by omega
  have place : allLinks.reverse[63 - l.val]? = some l := by
    rw [List.getElem?_reverse (by simpa [allLinks] using h)]
    simp [allLinks, hl]
  rw [State.linkSet, List.getD_eq_getElem?_getD, List.getElem?_map, place, Option.map_some, Option.getD_some,
    Bool.eq_iff_iff, bne_iff_ne, decide_eq_true_iff]

theorem offerNotice_unnamed {e : Half} (h : 64 ≤ s.param .noticeLink) : s.offerNotice e = s := by
  rw [State.offerNotice, State.noticeLink, dif_neg (Nat.not_lt.2 h)]

theorem offerNotice_named {e : Half} (h : s.param .noticeLink = l.val) :
    s.offerNotice e =
      if s.notice.pending && (s.port l).takesControl then
        ({ s with notice := { s.notice with pending := false } } : State).modPort l fun p =>
          { p with sched := { p.sched with control := p.sched.control ++ [{ kind := .notice, cell := s.noticeCell e }] } }
      else s := by
  have hl : s.noticeLink = some l := by simp [State.noticeLink, h]
  rw [State.offerNotice, hl]
  rfl

/-! ### ALARM_N (R188) -/

theorem alarmN_held (h : s.inReset = true) : s.alarmN = false := if_pos h

theorem alarmN_link (hr : s.inReset = false) (h : s.param .alarmSource = l.val) :
    s.alarmN = true ↔ (s.port l).unit.state = .up := by
  have hl : s.alarmLink = some l := by simp [State.alarmLink, h]
  simp [State.alarmN, hr, hl]

theorem alarmN_summary (hr : s.inReset = false) (h : 64 ≤ s.param .alarmSource) : s.alarmN = !s.unmaskedLatched := by
  have hl : s.alarmLink = none := dif_neg (Nat.not_lt.2 h)
  simp [State.alarmN, hr, hl]

theorem and_not_ne_zero_iff {w : Nat} {x m : BitVec w} :
    x &&& ~~~m ≠ 0 ↔ ∃ i, i < w ∧ x.getLsbD i = true ∧ m.getLsbD i = false := by
  rw [Ne, BitVec.eq_of_getLsbD_eq_iff, not_forall]
  refine exists_congr fun i => ?_
  by_cases hi : i < w <;> simp [hi]

theorem exists_elementFlag_bit {i : Nat} (h : i < 16) : ∃ f : ElementFlag, f.bit = i := by
  have all : [ElementFlag.resetSeen, .bootFail, .bootRecordError, .epochEarly, .epochMissed, .epochLost, .epochJump,
      .pinStuck, .routeCheck, .commitDone, .commitFailed, .stageBusyWrite, .bufferExhausted, .poolExhausted,
      .globalCongestion, .mgmtDiscard].map ElementFlag.bit = List.range 16 := rfl
  obtain ⟨f, -, hf⟩ := List.mem_map.1 (all ▸ List.mem_range.2 h)
  exact ⟨f, hf⟩

theorem exists_linkFlag_bit {i : Nat} (h : i < 5) : ∃ f : LinkFlag, f.bit = i := by
  have all : [LinkFlag.linkUp, .fault, .flapLimit, .creditError, .drainTimeout].map LinkFlag.bit = List.range 5 := rfl
  obtain ⟨f, -, hf⟩ := List.mem_map.1 (all ▸ List.mem_range.2 h)
  exact ⟨f, hf⟩

/-- R188: SUMMARY is asserted by a latched flag whose mask is clear, of the element or of a link. -/
theorem unmaskedLatched_iff : s.unmaskedLatched = true ↔
    (∃ f : ElementFlag, s.elementFlag f = true ∧ s.notice.elementMasks.getLsbD f.bit = false) ∨
      ∃ (l : LinkId) (f : LinkFlag), s.linkFlag l f = true ∧ s.notice.linkMasks.getLsbD f.bit = false := by
  have link (l : LinkId) : l ∈ allLinks := List.mem_finRange l
  simp only [State.unmaskedLatched, Bool.or_eq_true, List.any_eq_true, bne_iff_ne, and_not_ne_zero_iff, link, true_and]
  refine or_congr ⟨?_, ?_⟩ (exists_congr fun l => ⟨?_, ?_⟩)
  · rintro ⟨i, hi, h⟩
    obtain ⟨f, rfl⟩ := exists_elementFlag_bit hi
    exact ⟨f, h⟩
  · exact fun ⟨f, h⟩ => ⟨f.bit, by cases f <;> decide, h⟩
  · rintro ⟨i, hi, h⟩
    obtain ⟨f, rfl⟩ := exists_linkFlag_bit hi
    exact ⟨f, h⟩
  · exact fun ⟨f, h⟩ => ⟨f.bit, by cases f <;> decide, h⟩

/-- Settles O48: the offer of a notice by the link and its queue, the notice's bytes, and the level by its source. -/
theorem noticesAndAlarm : Obligations.NoticesAndAlarm := by
  refine ⟨fun s e rest u hr hb hu => ?_, fun s => ⟨alarmN_held, fun hr l => alarmN_link hr, fun hr h => ?_⟩⟩
  · have offered : exec .noticeBoundary s = .next (u.offerNotice e) := by
      refine (act_run _ hr).trans (congrArg _ ?_)
      simp only [State.noticeBoundary, hb, hu]
    have hparam : u.param .noticeLink = s.param .noticeLink := by rw [hu]; rfl
    have hport : ∀ l, u.port l = s.port l := fun l => by rw [hu]; rfl
    have hpending : u.notice.pending = s.notice.pending := by rw [hu]
    rw [offered]
    refine ⟨fun h hlink => ?_, fun l hl => ⟨fun hp hs hlen => ?_, fun h => ?_⟩, fun x hx => ?_⟩
    · rcases hlink with hlink | hlink
      · have hp : s.notice.pending = false := h.resolve_right (by omega)
        rw [offerNotice_named (l := ⟨_, hlink⟩) hparam, hpending, hp]; rfl
      · rw [offerNotice_unnamed (by omega)]
    · rw [offerNotice_named (hparam.trans hl), hport, hpending, hp, takesControl_of hs hlen]; rfl
    · rw [offerNotice_named (hparam.trans hl), hport, takesControl_false h, Bool.and_false]; rfl
    · subst hx
      refine ⟨rfl, rfl, rfl, rfl, headerOk_of_build rfl, payloadOk_of_checkedPayload rfl, fun i h19 hi => ?_,
        noticeCell_byte s e (by decide), noticeCell_byte s e (by decide), noticeCell_byte s e (by decide),
        noticeCell_byte s e (by decide), ?_, noticeCell_byte s e (by decide), noticeCell_byte s e (by decide), ?_,
        noticeCell_byte s e (by decide), fun l => ?_⟩
      · rw [noticeCell_byte s e hi, byteAt_of_le (by simpa [bytesOfBits_length] using h19)]
      · rw [noticeCell_byte s e (by decide), noticeCell_byte s e (by decide)]
        exact half_hiByte_loByte _
      · rw [noticeCell_byte s e (by decide), noticeCell_byte s e (by decide)]
        exact half_hiByte_loByte _
      · have hbyte : 18 - l.val / 8 = 11 + (63 - l.val) / 8 := by omega
        have hbit : l.val % 8 = 7 - (63 - l.val) % 8 := by omega
        rw [noticeCell_byte s e (by omega), hbyte, byteAt_append_add (n := 11) rfl, hbit,
          bytesOfBits_getLsbD (by rw [linkSet_length]) (by omega), linkSet_getD]
  · rw [alarmN_summary hr (by omega), Bool.not_eq_false', unmaskedLatched_iff]

end Sys2Proof.Machine
end

section
/-! SUPPORT. Requests (spec/09_management_requests.md, R169 to R172): codes, the shape of a request, READ and READ_CLEAR. -/

namespace Sys2Proof.Machine

variable {s : State} {l : LinkId} {f : Fields} {o : Object} {arg : Byte}

/-! ### Codes and shapes (R13, R169, R170) -/

/-- R13: the 256 codes against the table of the commands. -/
theorem commandOf_eq_lookup : ∀ b : Byte, commandOf b = List.lookup b
    [(0x01, .read), (0x02, .write), (0x03, .readClear), (0x10, .commit), (0x11, .cancelCommit), (0x20, .linkEnable),
      (0x21, .linkDisable), (0x22, .linkTest), (0x30, .setEpoch), (0x40, .closeConfig), (0x41, .softReset), (0x7E, .echo)] := by
  decide +kernel

/-- R13: the 256 codes against the table of the objects. -/
theorem objectOf_eq_lookup : ∀ b : Byte, objectOf b = List.lookup b
    [(0x01, .config), (0x02, .portMap), (0x03, .dest .stageA), (0x04, .dest .stageB), (0x05, .dest .active),
      (0x06, .group .stageA), (0x07, .group .stageB), (0x08, .group .active), (0x09, .linkStatus), (0x0A, .counters),
      (0x0B, .flags), (0x0C, .masks), (0x0D, .commitStatus), (0x0E, .epochStatus), (0x0F, .bootStatus), (0x10, .identity)] := by
  decide +kernel

theorem shapeRefusal_badCount (h : f.count.toNat = 0 ∨ o.perRequest < f.count.toNat) : f.shapeRefusal o = some .badValue :=
  if_pos h

section
variable (h1 : 1 ≤ f.count.toNat) (h2 : f.count.toNat ≤ o.perRequest)
include h1 h2

theorem shapeRefusal_badArg (hc : o = .counters) (ha : 64 ≤ f.arg.toNat) (hne : f.arg ≠ 255) :
    f.shapeRefusal o = some .badIndex := by
  rw [Fields.shapeRefusal, if_neg (by omega), if_pos ⟨hc, ha, hne⟩]

theorem shapeRefusal_range (ha : o = .counters → f.arg.toNat < 64 ∨ f.arg = 255) :
    f.shapeRefusal o = if o.entries f.arg < f.index.toNat + f.count.toNat then some .badIndex else none := by
  have harg : ¬(o = .counters ∧ 64 ≤ f.arg.toNat ∧ f.arg ≠ 255) := fun ⟨hc, h64, hne⟩ =>
    (ha hc).elim (Nat.not_lt.2 h64) hne
  rw [Fields.shapeRefusal, if_neg (by omega), if_neg harg]

end

/-- A request that is not refused for its shape names 1 or more entries, all of them there. -/
theorem of_shapeRefusal_none (h : f.shapeRefusal o = none) :
    1 ≤ f.count.toNat ∧ (o = .counters → f.arg.toNat < 64 ∨ f.arg = 255) ∧
      f.index.toNat + f.count.toNat ≤ o.entries f.arg := by
  unfold Fields.shapeRefusal at h
  split_ifs at h with hcount harg hrange
  refine ⟨by omega, fun hc => ?_, by omega⟩
  by_contra hn
  rw [not_or, Nat.not_lt] at hn
  exact harg ⟨hc, hn⟩

/-! ### The service of the head of the request queue (R166, R167) -/

theorem serve_head {kind : ServiceKind} {judge : Fields → State → Served} {r : Request} {rest : List Request}
    (hq : s.agent.requests = r :: rest) (hk : r.fields.kind = kind) :
    serve kind judge s =
      (judge r.fields (s.dropRequest rest)).state.respond r (judge r.fields (s.dropRequest rest)).status
        (judge r.fields (s.dropRequest rest)).data := by
  simp only [serve, hq, hk, if_true]

theorem kind_read (h : f.command = 0x01) : f.kind = .read := by rw [Fields.kind, h]; rfl

theorem kind_readClear (h : f.command = 0x03) : f.kind = .readClear := by rw [Fields.kind, h]; rfl

theorem judgeRead_unknown (h : objectOf f.object = none) : judgeRead f s = refuse s .badObject := by
  simp only [judgeRead, h]

theorem judgeRead_refused {status : Status} (h : objectOf f.object = some o) (hs : f.shapeRefusal o = some status) :
    judgeRead f s = refuse s status := by
  simp only [judgeRead, h, hs]

theorem judgeRead_taken (h : objectOf f.object = some o) (hs : f.shapeRefusal o = none) :
    judgeRead f s = { state := s, status := .ok, data := s.readData f o } := by
  simp only [judgeRead, h, hs]

theorem judgeReadClear_unknown (h : objectOf f.object = none) : judgeReadClear f s = refuse s .badObject := by
  simp only [judgeReadClear, h]

theorem clearable_iff : o.clearable = true ↔ o = .counters ∨ o = .flags := by
  cases o <;> simp [Object.clearable]

theorem judgeReadClear_unclearable (h : objectOf f.object = some o) (hc : o.clearable = false) :
    judgeReadClear f s = refuse s .badObject := by
  simp only [judgeReadClear, h, hc, Bool.not_false, if_true]

theorem judgeReadClear_refused {status : Status} (h : objectOf f.object = some o) (hc : o.clearable = true)
    (hs : f.shapeRefusal o = some status) : judgeReadClear f s = refuse s status := by
  simp only [judgeReadClear, h, hc, hs, Bool.not_true, Bool.false_eq_true, if_false]

theorem judgeReadClear_taken (h : objectOf f.object = some o) (hc : o.clearable = true) (hs : f.shapeRefusal o = none) :
    judgeReadClear f s = { state := s.clearEntries f o, status := .ok, data := s.readData f o } := by
  simp only [judgeReadClear, h, hc, hs, Bool.not_true, Bool.false_eq_true, if_false]

/-! ### One entry cleared (R172, R176) -/

theorem linkOfByte_of_lt {b : Byte} (h : b.toNat < 64) : linkOfByte b = some ⟨b.toNat, h⟩ := dif_pos h

theorem linkOfByte_any : linkOfByte 255 = none := rfl

/-- Clearing counter k leaves every other counter of the link as it was. -/
theorem counterAt_clearCounter (p : Port) {k i : Nat} (hk : k < 16) (hi : i < 16) :
    (p.clearCounter k).counterAt i = if k = i then 0 else p.counterAt i := by
  unfold Port.clearCounter Port.counterAt
  by_cases hk15 : k < 15 <;> by_cases hi15 : i < 15
  · simp only [hk15, hi15, dif_pos, Vector.getElem_set]
  · rw [dif_pos hk15, dif_neg hi15, dif_neg hi15, if_neg (by omega)]
  · rw [dif_neg hk15, dif_pos hi15, dif_pos hi15, if_neg (by omega)]
  · rw [dif_neg hk15, dif_neg hi15, if_pos (by omega)]
    rfl

theorem clearFlags_elementCounters (s : State) (k : Nat) : (s.clearFlags k).elementCounters = s.elementCounters := by
  unfold State.clearFlags
  split_ifs <;> rfl

theorem clearFlags_counterAt (s : State) (k : Nat) (l : LinkId) (i : Nat) :
    ((s.clearFlags k).port l).counterAt i = (s.port l).counterAt i := by
  unfold State.clearFlags
  split_ifs with h0 hk
  · rfl
  · by_cases hl : l = ⟨k - 1, hk⟩
    · rw [hl, port_modPort_self]; rfl
    · rw [port_modPort_ne hl]
  · rfl

/-- Entry 0 of FLAGS holds the element flags, entry n + 1 those of link n. -/
theorem clearFlags_flags (s : State) (k : Nat) (l : LinkId) :
    ((s.clearFlags k).port l).flags = if k = l.val + 1 then 0 else (s.port l).flags := by
  unfold State.clearFlags
  by_cases h0 : k = 0
  · rw [if_pos h0, if_neg (by omega)]
    rfl
  rw [if_neg h0]
  split <;> rename_i hk
  · by_cases hl : l.val = k - 1
    · rw [if_pos (by omega), show (⟨k - 1, hk⟩ : LinkId) = l from Fin.ext hl.symm, port_modPort_self]
    · rw [if_neg (by omega), port_modPort_ne fun e => hl (by rw [e])]
  · rw [if_neg (by omega)]

theorem clearFlags_notice (s : State) (k : Nat) :
    (s.clearFlags k).notice = if k = 0 then { s.notice with flags := 0, resetKind := .none } else s.notice := by
  unfold State.clearFlags
  split_ifs <;> rfl

theorem clearCounter_elementCounters (s : State) (ha : arg.toNat < 64 ∨ arg = 255) (k : Nat) (i : Fin 6) :
    (s.clearCounter arg k).elementCounters[i] = if arg = 255 ∧ k = i.val then 0 else s.elementCounters[i] := by
  rcases ha with h | rfl
  · have : arg ≠ 255 := by rintro rfl; exact absurd h (by decide)
    simp only [State.clearCounter, linkOfByte_of_lt h, modPort_elementCounters, this, false_and, if_false]
  · simp only [State.clearCounter, linkOfByte_any, true_and]
    split
    · simp only [Fin.getElem_fin, Vector.getElem_set]
    · rw [if_neg (by omega)]

theorem clearCounter_counterAt (s : State) (ha : arg.toNat < 64 ∨ arg = 255) {k i : Nat}
    (hk : k < if arg = 255 then 6 else 16) (hi : i < 16) (l : LinkId) :
    ((s.clearCounter arg k).port l).counterAt i = if arg.toNat = l.val ∧ k = i then 0 else (s.port l).counterAt i := by
  rcases ha with h | rfl
  · have hk : k < 16 := lt_of_lt_of_le hk (by split <;> decide)
    simp only [State.clearCounter, linkOfByte_of_lt h]
    by_cases hl : arg.toNat = l.val
    · rw [show (⟨arg.toNat, h⟩ : LinkId) = l from Fin.ext hl, port_modPort_self, counterAt_clearCounter _ hk hi]
      simp only [hl, true_and]
    · rw [port_modPort_ne fun e => hl (by rw [e]), if_neg (fun h => hl h.1)]
  · have : ¬((255 : Byte).toNat = l.val) := by have := l.isLt; simp; omega
    simp only [State.clearCounter, linkOfByte_any, this, false_and, if_false]
    split <;> rfl

theorem clearCounter_flags (s : State) (arg : Byte) (k : Nat) (l : LinkId) :
    ((s.clearCounter arg k).port l).flags = (s.port l).flags := by
  unfold State.clearCounter
  cases linkOfByte arg with
  | some m =>
    by_cases hl : l = m
    · rw [hl, port_modPort_self, Port.clearCounter]; split <;> rfl
    · rw [port_modPort_ne hl]
  | none => dsimp only; split <;> rfl

theorem clearCounter_notice (s : State) (arg : Byte) (k : Nat) : (s.clearCounter arg k).notice = s.notice := by
  unfold State.clearCounter
  cases linkOfByte arg with
  | some m => rfl
  | none => dsimp only; split <;> rfl

/-! ### The entries of a READ_CLEAR (R172) -/

/-- What a sequence of updates does to one observation of the state, when each either clears it (`z`) or leaves it. -/
theorem foldl_clears {α : Type} {observe : State → α} {z : α → α} (hz : ∀ x, z (z x) = z x) {P : Nat → Prop}
    [DecidablePred P] {update : State → Nat → State} (ks : List Nat)
    (h : ∀ t, ∀ k ∈ ks, observe (update t k) = if P k then z (observe t) else observe t) (s : State) :
    observe (ks.foldl update s) = if ∃ k ∈ ks, P k then z (observe s) else observe s := by
  induction ks generalizing s with
  | nil => simp
  | cons k rest ih =>
    rw [List.foldl_cons, ih fun t j hj => h t j (List.mem_cons_of_mem _ hj), h s k List.mem_cons_self]
    by_cases hk : P k <;> simp [hk, hz]

/-- A clear moves nothing but the counters, the flags and the reset kind. -/
structure ClearFrame (s t : State) : Prop where
  port : ∀ l, t.port l = { s.port l with
    counters := (t.port l).counters, testErrors := (t.port l).testErrors, flags := (t.port l).flags }
  rest : t = { s with ports := t.ports, elementCounters := t.elementCounters, notice := t.notice }

theorem ClearFrame.refl (s : State) : ClearFrame s s := ⟨fun _ => rfl, rfl⟩

theorem ClearFrame.trans {s t u : State} (h : ClearFrame s t) (k : ClearFrame t u) : ClearFrame s u :=
  ⟨fun l => by rw [k.port l, h.port l], by rw [k.rest, h.rest]⟩

theorem ClearFrame.modPort {f : Port → Port} (h : ∀ p, f p = { p with
    counters := (f p).counters, testErrors := (f p).testErrors, flags := (f p).flags }) : ClearFrame s (s.modPort l f) where
  port m := by
    by_cases hm : m = l
    · rw [hm, port_modPort_self]; exact h _
    · rw [port_modPort_ne hm]
  rest := rfl

theorem clearFrame_clearEntry (s : State) (o : Object) (arg : Byte) (k : Nat) : ClearFrame s (s.clearEntry o arg k) := by
  unfold State.clearEntry
  split
  · unfold State.clearCounter
    cases linkOfByte arg with
    | some m => exact .modPort fun p => by unfold Port.clearCounter; split <;> rfl
    | none =>
      dsimp only
      split
      · exact ⟨fun _ => rfl, rfl⟩
      · exact .refl s
  · unfold State.clearFlags
    split_ifs
    · exact ⟨fun _ => rfl, rfl⟩
    · exact .modPort fun p => rfl
    · exact .refl s
  all_goals exact .refl s

theorem clearFrame_foldl (o : Object) (arg : Byte) (i : Nat) (ks : List Nat) (s : State) :
    ClearFrame s (ks.foldl (fun t k => t.clearEntry o arg (i + k)) s) := by
  induction ks generalizing s with
  | nil => exact .refl s
  | cons k rest ih => exact (clearFrame_clearEntry s o arg (i + k)).trans (ih _)

theorem clearEntry_counters (s : State) (k : Nat) : s.clearEntry .counters arg k = s.clearCounter arg k := rfl

theorem clearEntry_flags (s : State) (k : Nat) : s.clearEntry .flags arg k = s.clearFlags k := rfl

/-- An observation that only entry `place` clears, and only when `A` holds, is cleared when the entries named hold that entry. -/
theorem clearEntries_observe {α : Type} {observe : State → α} {z : α → α} (hz : ∀ x, z (z x) = z x) {A : Prop}
    [Decidable A] {place : Nat} (s : State) (h : ∀ t k, k < f.index.toNat + f.count.toNat →
      observe (t.clearEntry o f.arg k) = if A ∧ k = place then z (observe t) else observe t) {Q : Prop} [Decidable Q]
    (hQ : Q ↔ A ∧ f.index.toNat ≤ place ∧ place < f.index.toNat + f.count.toNat) :
    observe (s.clearEntries f o) = if Q then z (observe s) else observe s := by
  rw [State.clearEntries, foldl_clears hz (P := fun k => A ∧ f.index.toNat + k = place) _ fun t k hk =>
    h t _ (Nat.add_lt_add_left (List.mem_range.1 hk) _)]
  refine if_congr (Iff.trans ⟨?_, ?_⟩ hQ.symm) rfl rfl
  · rintro ⟨k, hk, hA, rfl⟩
    exact ⟨hA, Nat.le_add_right .., Nat.add_lt_add_left (List.mem_range.1 hk) _⟩
  · exact fun ⟨hA, hlo, hhi⟩ => ⟨place - f.index.toNat, List.mem_range.2 (by omega), hA, Nat.add_sub_cancel' hlo⟩

section
variable (ho : o = .counters ∨ o = .flags) (hf : f.shapeRefusal o = none) (s : State)
include ho hf

theorem clearEntries_elementCounters (i : Fin 6) :
    (s.clearEntries f o).elementCounters[i] =
      if o = .counters ∧ f.arg = 255 ∧ f.index.toNat ≤ i.val ∧ i.val < f.index.toNat + f.count.toNat then 0
      else s.elementCounters[i] := by
  obtain ⟨-, ha, -⟩ := of_shapeRefusal_none hf
  refine clearEntries_observe (observe := fun t => t.elementCounters[i]) (z := fun _ => 0) (fun _ => rfl)
    (A := o = .counters ∧ f.arg = 255) (place := i.val) s (fun t k _ => ?_) and_assoc.symm
  rcases ho with rfl | rfl
  · simpa only [clearEntry_counters, true_and] using clearCounter_elementCounters t (ha rfl) k i
  · exact congrArg (·[i]) (clearFlags_elementCounters t k)

theorem clearEntries_counterAt (l : LinkId) {i : Nat} (hi : i < 16) :
    ((s.clearEntries f o).port l).counterAt i =
      if o = .counters ∧ f.arg.toNat = l.val ∧ f.index.toNat ≤ i ∧ i < f.index.toNat + f.count.toNat then 0
      else (s.port l).counterAt i := by
  obtain ⟨-, ha, hrange⟩ := of_shapeRefusal_none hf
  refine clearEntries_observe (observe := fun t => (t.port l).counterAt i) (z := fun _ => 0) (fun _ => rfl)
    (A := o = .counters ∧ f.arg.toNat = l.val) (place := i) s (fun t k hk => ?_) and_assoc.symm
  rcases ho with rfl | rfl
  · simpa only [clearEntry_counters, true_and] using clearCounter_counterAt t (ha rfl) (lt_of_lt_of_le hk hrange) hi l
  · exact clearFlags_counterAt t k l i

theorem clearEntries_flags (l : LinkId) :
    ((s.clearEntries f o).port l).flags =
      if o = .flags ∧ f.index.toNat ≤ l.val + 1 ∧ l.val + 1 < f.index.toNat + f.count.toNat then 0
      else (s.port l).flags := by
  refine clearEntries_observe (observe := fun t => (t.port l).flags) (z := fun _ => 0) (fun _ => rfl)
    (A := o = .flags) (place := l.val + 1) s (fun t k _ => ?_) Iff.rfl
  rcases ho with rfl | rfl
  · exact clearCounter_flags t f.arg k l
  · simpa only [clearEntry_flags, true_and] using clearFlags_flags t k l

theorem clearEntries_notice :
    (s.clearEntries f o).notice =
      if o = .flags ∧ f.index.toNat = 0 then { s.notice with flags := 0, resetKind := .none } else s.notice := by
  obtain ⟨h1, -, -⟩ := of_shapeRefusal_none hf
  refine clearEntries_observe (observe := State.notice) (z := fun n => { n with flags := 0, resetKind := .none })
    (fun _ => rfl) (A := o = .flags) (place := 0) s (fun t k _ => ?_) (and_congr_right fun _ => by omega)
  rcases ho with rfl | rfl
  · exact clearCounter_notice t f.arg k
  · simpa only [clearEntry_flags, true_and] using clearFlags_notice t k

end

/-- Settles O41: the codes, the shape in its order, and READ and READ_CLEAR by what `judgeRead` and `judgeReadClear` come to. -/
theorem requestShapesReadsAndClears : Obligations.RequestShapesReadsAndClears := by
  refine ⟨fun r b hb => hb ▸ rfl, fun b => ⟨commandOf_eq_lookup b, objectOf_eq_lookup b⟩,
    fun f o k => ⟨field_length .., fun i hi => byteAt_field _ hi⟩, fun s rest => rfl,
    ⟨fun f o => ⟨fun h => shapeRefusal_badCount ?_, fun h1 h2 =>
      ⟨shapeRefusal_badArg h1 h2, fun ha => ⟨fun h => ?_, fun h => ?_⟩⟩⟩,
      fun set arg => rfl⟩,
    fun s u r rest f hr hq hf hu => ⟨fun hc => ?_, fun hc => ?_⟩⟩
  · exact h.imp_left fun h => by rw [h]; rfl
  · rw [shapeRefusal_range h1 h2 ha, if_pos (by omega)]
  · rw [shapeRefusal_range h1 h2 ha, if_neg (by omega)]
  · subst hf hu
    have served : exec .read s = .next _ := (act_run _ hr).trans (congrArg _ (serve_head hq (kind_read hc)))
    rw [served]
    refine ⟨fun h => ?_, fun o ho => ⟨fun status h => ?_, fun h => ?_⟩⟩
    · rw [judgeRead_unknown h]; rfl
    · rw [judgeRead_refused ho h]; rfl
    · rw [judgeRead_taken ho h]; rfl
  · subst hf hu
    have served : exec .readClear s = .next _ := (act_run _ hr).trans (congrArg _ (serve_head hq (kind_readClear hc)))
    rw [served]
    refine ⟨fun h => ?_, fun o ho hcounters hflags => ?_, fun o status ho hcl h => ?_, fun o ho hcl h => ?_⟩
    · rw [judgeReadClear_unknown h]; rfl
    · rw [judgeReadClear_unclearable ho (by rw [Bool.eq_false_iff, Ne, clearable_iff]; tauto)]; rfl
    · rw [judgeReadClear_refused ho (clearable_iff.2 hcl) h]; rfl
    · rw [judgeReadClear_taken ho (clearable_iff.2 hcl) h]
      set u := s.dropRequest rest
      have frame : ClearFrame u (u.clearEntries r.fields o) := clearFrame_foldl ..
      have unmoved := frame.rest
      refine ⟨u.clearEntries r.fields o, rfl, clearEntries_elementCounters hcl h u,
        fun l i hi => clearEntries_counterAt hcl h u l hi, clearEntries_flags hcl h u, clearEntries_notice hcl h u, frame.port, ?_⟩
      rw [unmoved]
      exact ⟨rfl, rfl, rfl, rfl, rfl, rfl, rfl⟩

end Sys2Proof.Machine
end

section
/-! SUPPORT. The entries of the objects as they are read (spec/09_management_requests.md, R170, R171), object by object. -/

namespace Sys2Proof

/-! ### Fields at their places -/

theorem natHalf_toNat {n : Nat} (h : n < 65536) :
    (half (hiByte (BitVec.ofNat 16 n)) (loByte (BitVec.ofNat 16 n))).toNat = n := by
  rw [half_hiByte_loByte, BitVec.toNat_ofNat, Nat.mod_eq_of_lt h]

theorem vector4_toList {α : Type} (v : Vector α 4) : v.toList = [v[0], v[1], v[2], v[3]] := by
  apply List.ext_getElem (by simp)
  intro i h _
  have hi : i < 4 := by simpa using h
  interval_cases i <;> simp

theorem halfAt_append_left {a : List Byte} (b : List Byte) {i : Nat} (h : i + 1 < a.length) :
    halfAt (a ++ b) i = halfAt a i := by
  rw [halfAt, halfAt, byteAt_append_left _ (by omega), byteAt_append_left _ h]

theorem halfAt_append_add {a : List Byte} {n : Nat} (hn : a.length = n) (b : List Byte) (i : Nat) :
    halfAt (a ++ b) (n + i) = halfAt b i := by
  rw [halfAt, halfAt, Nat.add_assoc, byteAt_append_add hn, byteAt_append_add hn]

end Sys2Proof

namespace Sys2Proof.Machine

variable {s : State} {l : LinkId} {arg : Byte} {set : RouteSetId}

/-! ### CONFIG and PORT_MAP (R24, R174) -/

theorem readEntry_config (i : Fin 30) : s.readEntry .config arg i.val = bytes16 s.agent.params[i] := dif_pos i.isLt

theorem readEntry_portMap : s.readEntry .portMap arg l.val = (s.port l).map.bytes := dif_pos l.isLt

/-! ### Route tables (R50, R51, R56) -/

theorem readEntry_dest (d : Dcn) :
    s.readEntry (.dest set) arg d.val =
      destBytes (s.routes.get set).dest[d].contents (set == .active && s.routes.destBad[d])
        (if set == .active then s.routes.pointer[d].val else 0) := dif_pos d.isLt

theorem readEntry_group (g : GroupId) :
    s.readEntry (.group set) arg g.val =
      groupBytes (s.routes.get set).group[g].contents (set == .active && s.routes.groupBad[g]) := dif_pos g.isLt

/-- R50: bit 0 VALID, bit 1 the bad mark, bits 2 and 3 zero, bits 4 to 7 the spray pointer. -/
theorem destFlags_bits : ∀ (valid bad : Bool) (pointer : Fin 4),
    (bitAt valid 0 ||| bitAt bad 1 ||| (natByte pointer.val <<< 4)).getLsbD 0 = valid ∧
    (bitAt valid 0 ||| bitAt bad 1 ||| (natByte pointer.val <<< 4)).getLsbD 1 = bad ∧
    (bitAt valid 0 ||| bitAt bad 1 ||| (natByte pointer.val <<< 4)).getLsbD 2 = false ∧
    (bitAt valid 0 ||| bitAt bad 1 ||| (natByte pointer.val <<< 4)).getLsbD 3 = false ∧
    (bitAt valid 0 ||| bitAt bad 1 ||| (natByte pointer.val <<< 4)).toNat / 16 = pointer.val := by decide

/-- R51: bit 0 VALID, bit 1 ECHO, bit 2 the bad mark, the others zero. -/
theorem groupFlags_bits : ∀ valid echo bad : Bool,
    (bitAt valid 0 ||| bitAt echo 1 ||| bitAt bad 2).getLsbD 0 = valid ∧
    (bitAt valid 0 ||| bitAt echo 1 ||| bitAt bad 2).getLsbD 1 = echo ∧
    (bitAt valid 0 ||| bitAt echo 1 ||| bitAt bad 2).getLsbD 2 = bad ∧
    (bitAt valid 0 ||| bitAt echo 1 ||| bitAt bad 2).toNat / 8 = 0 := by decide

/-! ### LINK_STATUS, COUNTERS, FLAGS and MASKS (R175, R176) -/

theorem readEntry_linkStatus : s.readEntry .linkStatus arg l.val = s.linkStatusBytes l := dif_pos l.isLt

/-- R175: byte 2 of LINK_STATUS. -/
def linkStatusFlags (p : Port) : Byte :=
  bitAt p.queues.flushing 0 ||| bitAt p.unit.signal 1 ||| bitAt p.unit.aligned 2 ||| bitAt p.unit.qualified 3 |||
    bitAt p.queues.xoff[0] 4 ||| bitAt p.queues.xoff[1] 5 ||| bitAt p.queues.xoff[2] 6 ||| bitAt p.queues.xoff[3] 7

theorem linkStatusFlags_getLsbD (p : Port) :
    (linkStatusFlags p).getLsbD 0 = p.queues.flushing ∧ (linkStatusFlags p).getLsbD 1 = p.unit.signal ∧
      (linkStatusFlags p).getLsbD 2 = p.unit.aligned ∧ (linkStatusFlags p).getLsbD 3 = p.unit.qualified ∧
      ∀ c : ClassId, (linkStatusFlags p).getLsbD (4 + c.val) = p.queues.xoff[c] := by
  refine ⟨?_, ?_, ?_, ?_, fun c => ?_⟩
  on_goal 5 => fin_cases c
  all_goals simp [linkStatusFlags, bitAt_getLsbD, -BitVec.getLsbD_eq_getElem]

/-- R175: the 32 bytes of LINK_STATUS. -/
theorem linkStatusBytes_eq (s : State) (l : LinkId) {p : Port} (hp : p = s.port l) :
    s.linkStatusBytes l =
      [natByte l.val, p.unit.state.code, linkStatusFlags p] ++
      ((p.unit.lastFault.elim 0 fun r => r.cause.code) :: bytes16 (p.unit.lastFault.elim 0 FaultRecord.epoch)) ++
      [natByte p.unit.flapCount, 0] ++
      (natHalf p.queues.lists[0].length ++ natHalf p.queues.lists[1].length ++ natHalf p.queues.lists[2].length ++
        natHalf p.queues.lists[3].length) ++
      [p.credit.available 0, p.credit.available 1, p.credit.available 2, p.credit.available 3] ++
      [p.credit.granted[0], p.credit.granted[1], p.credit.granted[2], p.credit.granted[3]] ++
      [p.credit.sent[0], p.credit.sent[1], p.credit.sent[2], p.credit.sent[3]] ++ [0, 0, 0, 0] := by
  subst hp
  simp only [State.linkStatusBytes, vector4_toList]
  cases (s.port l).unit.lastFault <;> rfl

theorem linkStatus_entry (s : State) (l : LinkId) {p : Port} {b : List Byte} (hp : p = s.port l)
    (hb : b = s.readEntry .linkStatus arg l.val) :
    b.length = 32 ∧ (byteAt b 0).toNat = l.val ∧ byteAt b 1 = p.unit.state.code ∧
      (byteAt b 2).getLsbD 0 = p.queues.flushing ∧ (byteAt b 2).getLsbD 1 = p.unit.signal ∧
      (byteAt b 2).getLsbD 2 = p.unit.aligned ∧ (byteAt b 2).getLsbD 3 = p.unit.qualified ∧
      (∀ r, p.unit.lastFault = some r → byteAt b 3 = r.cause.code ∧ halfAt b 4 = r.epoch) ∧
      (p.unit.lastFault = none → byteAt b 3 = 0 ∧ halfAt b 4 = 0) ∧
      (p.unit.flapCount ≤ 255 → (byteAt b 6).toNat = p.unit.flapCount) ∧ byteAt b 7 = 0 ∧
      (∀ c : ClassId, (byteAt b 2).getLsbD (4 + c.val) = p.queues.xoff[c] ∧
        (p.queues.lists[c].length ≤ 1024 → (halfAt b (8 + 2 * c.val)).toNat = p.queues.lists[c].length) ∧
        byteAt b (16 + c.val) = p.credit.granted[c] - p.credit.sent[c] ∧
        byteAt b (20 + c.val) = p.credit.granted[c] ∧ byteAt b (24 + c.val) = p.credit.sent[c] ∧
        byteAt b (28 + c.val) = 0) := by
  rw [readEntry_linkStatus, linkStatusBytes_eq s l hp] at hb
  subst hb
  obtain ⟨h0, h1, h2, h3, hxoff⟩ := linkStatusFlags_getLsbD p
  refine ⟨rfl, natByte_toNat (by omega), rfl, h0, h1, h2, h3, fun r hr => ?_, fun hr => ?_, fun h => natByte_toNat (by omega),
    rfl, fun c => ⟨hxoff c, fun h => ?_, ?_⟩⟩
  · rw [hr]
    exact ⟨rfl, half_hiByte_loByte _⟩
  · rw [hr]
    exact ⟨rfl, half_hiByte_loByte _⟩
  · fin_cases c <;> exact natHalf_toNat (Nat.lt_of_le_of_lt h (by decide))
  · fin_cases c <;> exact ⟨rfl, rfl, rfl, rfl⟩

theorem readEntry_counters_link {i : Nat} (h : arg.toNat = l.val) :
    s.readEntry .counters arg i = bytes32 ((s.port l).counterAt i) := by
  have hl : linkOfByte arg = some l := linkOfByte_eq_some.2 (BitVec.eq_of_toNat_eq (by rw [h, BitVec.toNat_ofNat]; omega))
  simp only [State.readEntry, State.counterBytes, hl]

theorem readEntry_counters_element (i : Fin 6) : s.readEntry .counters 255 i.val = bytes32 s.elementCounters[i] :=
  dif_pos i.isLt

theorem counterAt_of_lt (p : Port) (i : Fin 15) : p.counterAt i.val = p.counters[i] := dif_pos i.isLt

/-- TEST_ERRORS is read with its upper 16 bits zero. -/
theorem bytes32_setWidth (x : BitVec 16) : bytes32 (x.setWidth 32) = [0, 0, hiByte x, loByte x] := by
  have high {k : Nat} (hk : 16 ≤ k) : (x.setWidth 32).extractLsb' k 8 = 0 := by
    ext i hi
    simp only [BitVec.getElem_extractLsb', BitVec.getLsbD_setWidth, BitVec.getLsbD_of_ge x (k + i) (by omega),
      Bool.and_false, BitVec.getElem_zero, BitVec.ofNat_eq_ofNat]
  have h3 : (x.setWidth 32).extractLsb' 8 8 = hiByte x := by ext i hi; simp [hiByte]; omega
  have h4 : (x.setWidth 32).extractLsb' 0 8 = loByte x := by ext i hi; simp [loByte]; omega
  rw [bytes32, high (by decide), high (by decide), h3, h4]

theorem readEntry_flags_link : s.readEntry .flags arg (l.val + 1) = [(s.port l).flags.setWidth 8, 0, 0, 0] := by
  simp [State.readEntry, State.flagBytes]

/-! ### Bytes of flags -/

theorem twoFlags_toNat : ∀ a b : Bool, (bitAt a 0 ||| bitAt b 1).toNat = (if a then 1 else 0) + (if b then 2 else 0) := by
  decide

theorem threeFlags_toNat : ∀ a b c : Bool, (bitAt a 0 ||| bitAt b 1 ||| bitAt c 2).toNat =
    (if a then 1 else 0) + (if b then 2 else 0) + (if c then 4 else 0) := by
  decide

/-! ### COMMIT_STATUS (R84) -/

/-- R84: bytes 6 to 15 of COMMIT_STATUS. -/
def recordBytes : Option CommitRecord → List Byte
  | none => List.replicate 10 0
  | some r => [1, r.request.bits] ++ bytes16 r.request.target ++ [r.outcome.code] ++ r.outcome.failBytes ++ bytes16 r.epoch

theorem commitStatusBytes_eq (s : State) :
    s.commitStatusBytes = s.commit.state.bytes ++ (recordBytes s.commit.record ++ natHalf s.commit.scrub.val) := by
  rw [State.commitStatusBytes, List.append_assoc]
  cases s.commit.record <;> rfl

theorem commitStateBytes_length (x : CommitState) : x.bytes.length = 6 := by cases x <;> rfl

theorem failBytes_length (x : CommitOutcome) : x.failBytes.length = 3 := by
  rcases x with _ | (d | g) | _ | _ | _ <;> rfl

theorem recordBytes_length (x : Option CommitRecord) : (recordBytes x).length = 10 := by
  cases x <;> simp [recordBytes, failBytes_length]

theorem commitRequestBits_toNat (q : CommitRequest) :
    q.bits.toNat = (match q.stage with | .a => 0 | .b => 1) + (if q.now then 2 else 0) := by
  rw [CommitRequest.bits, twoFlags_toNat]
  cases q.stage <;> rfl

/-- R84: a commit in progress in bytes 0 to 5: the walk's position while it checks, 632 while it is armed. -/
theorem commitStateBytes_active {x : CommitState} {q : CommitRequest} {n : Nat} {f : Option RoutePos}
    (h : x = .checking q n f ∨ (x = .armed q ∧ n = 632)) :
    x.bytes = [if x = .armed q then 2 else 1, q.bits] ++ bytes16 q.target ++ natHalf n := by
  rcases h with rfl | ⟨rfl, rfl⟩
  · rw [if_neg (by simp)]; rfl
  · rw [if_pos rfl]; rfl

theorem commitStatus_active {q : CommitRequest} {n : Nat} {f : Option RoutePos}
    (h : s.commit.state = .checking q n f ∨ (s.commit.state = .armed q ∧ n = 632)) :
    byteAt s.commitStatusBytes 0 = (if s.commit.state = .armed q then 2 else 1) ∧
      byteAt s.commitStatusBytes 1 = q.bits ∧ halfAt s.commitStatusBytes 2 = q.target ∧
      halfAt s.commitStatusBytes 4 = BitVec.ofNat 16 n := by
  rw [commitStatusBytes_eq, commitStateBytes_active h]
  exact ⟨rfl, rfl, half_hiByte_loByte _, half_hiByte_loByte _⟩

theorem commitStatus_record {r : CommitRecord} (h : s.commit.record = some r) :
    byteAt s.commitStatusBytes 6 = 1 ∧ byteAt s.commitStatusBytes 7 = r.request.bits ∧
      halfAt s.commitStatusBytes 8 = r.request.target ∧ byteAt s.commitStatusBytes 10 = r.outcome.code ∧
      byteAt s.commitStatusBytes 11 = byteAt r.outcome.failBytes 0 ∧
      halfAt s.commitStatusBytes 12 = halfAt r.outcome.failBytes 1 ∧ halfAt s.commitStatusBytes 14 = r.epoch := by
  have parts : s.commitStatusBytes = s.commit.state.bytes ++
      ([1, r.request.bits, hiByte r.request.target, loByte r.request.target, r.outcome.code] ++
        (r.outcome.failBytes ++ (bytes16 r.epoch ++ natHalf s.commit.scrub.val))) := by
    rw [commitStatusBytes_eq, h]
    simp [recordBytes, bytes16]
  have hstate := commitStateBytes_length s.commit.state
  have hfail := failBytes_length r.outcome
  rw [parts]
  refine ⟨byteAt_append_add hstate _ 0, byteAt_append_add hstate _ 1,
    (halfAt_append_add hstate _ 2).trans (half_hiByte_loByte _), byteAt_append_add hstate _ 4, ?_, ?_, ?_⟩
  · exact (byteAt_append_add hstate _ 5).trans (byteAt_append_left (a := r.outcome.failBytes) (i := 0) _ (by omega))
  · exact (halfAt_append_add hstate _ 6).trans
      ((halfAt_append_add (n := 5) rfl _ 1).trans (halfAt_append_left _ (by omega)))
  · exact (halfAt_append_add hstate _ 8).trans
      ((halfAt_append_add (n := 5) rfl _ 3).trans ((halfAt_append_add hfail _ 0).trans (half_hiByte_loByte _)))

theorem commitStatus_noRecord (h : s.commit.record = none) : (s.commitStatusBytes.drop 6).take 10 = List.replicate 10 0 := by
  rw [commitStatusBytes_eq, h, List.drop_left' (commitStateBytes_length _)]
  exact List.take_left' (recordBytes_length none)

theorem commitStatus_scrub (s : State) : (halfAt s.commitStatusBytes 16).toNat = s.commit.scrub.val := by
  have hscrub := s.commit.scrub.isLt
  rw [commitStatusBytes_eq, ← List.append_assoc,
    halfAt_append_add (n := 16) (by rw [List.length_append, commitStateBytes_length, recordBytes_length]) _ 0]
  exact natHalf_toNat (by omega)

/-! ### EPOCH_STATUS, BOOT_STATUS and IDENTITY (R161, R177, R198) -/

theorem epochStatus_flags (s : State) :
    (byteAt s.epochStatusBytes 4).toNat =
      (if s.epoch.pending = none then 0 else 1) + (if s.epoch.monitor = .stuck then 2 else 0) := by
  refine (twoFlags_toNat s.epoch.pending.isSome (s.epoch.monitor == .stuck)).trans ?_
  cases s.epoch.pending <;> simp

/-- R198: the 12 bytes of BOOT_STATUS. -/
theorem bootStatusBytes_eq (s : State) :
    s.bootStatusBytes =
      [s.boot.state.code, s.boot.cause.code,
        bitAt s.boot.bootSel 0 ||| bitAt s.boot.failInApply 1 ||| bitAt s.boot.firstBad.isSome 2, natByte s.boot.arbRun] ++
      natHalf s.boot.taken ++ natHalf s.boot.refused ++
      bytes16 (s.boot.firstBad.elim 0 fun x => BitVec.ofNat 16 x.1) ++ [s.boot.firstBad.elim 0 fun x => x.2.code, 0] := by
  simp only [State.bootStatusBytes]
  cases s.boot.firstBad <;> rfl

theorem bootStatus_flags (s : State) :
    (byteAt s.bootStatusBytes 2).toNat =
      (if s.boot.bootSel then 1 else 0) + (if s.boot.failInApply then 2 else 0) +
        (if s.boot.firstBad = none then 0 else 4) := by
  refine (threeFlags_toNat s.boot.bootSel s.boot.failInApply s.boot.firstBad.isSome).trans ?_
  cases s.boot.firstBad <;> simp

/-! ### The statement -/

/-- Settles O49, object by object. -/
theorem objectEntries : Obligations.ObjectEntries := by
  refine ⟨⟨rfl, rfl, rfl, rfl⟩, ⟨rfl, rfl, rfl, rfl⟩, fun s l => ⟨fun f => rfl, fun f => rfl⟩,
    fun p => ⟨counterAt_of_lt p, rfl⟩, fun s arg => ⟨fun i b hb => ?_, fun l e b he hb => ?_,
      fun set r hr => ⟨fun d e b he hb => ?_, fun g e b he hb => ?_⟩, fun l p b => linkStatus_entry s l,
      fun l hl => ⟨fun i => ?_, ?_⟩, fun harg i => ?_, rfl, fun l => readEntry_flags_link, rfl,
      fun b hb => ?_, fun b hb => ?_, fun b hb => ?_, fun b hb => ?_⟩⟩
  · rw [hb, readEntry_config]
    exact ⟨rfl, half_hiByte_loByte _⟩
  · rw [hb, readEntry_portMap, ← he]
    refine ⟨rfl, rfl, rfl, rfl, ?_, ?_, rfl, rfl, rfl, rfl, rfl⟩
    · cases h : e.recovery <;> simp [PortMapEntry.bytes, h]
    · cases h : e.squelch <;> simp [PortMapEntry.bytes, h]
  · have hset : r = s.routes.get set := by rw [hr]; cases set <;> rfl
    have hptr : (if set == .active then s.routes.pointer[d].val else 0) =
        (if set = .active then s.routes.pointer[d] else 0).val := by cases set <;> rfl
    rw [hb, readEntry_dest, ← hset, ← he, hptr]
    obtain ⟨h0, h1, h2, h3, h4⟩ := destFlags_bits e.valid (set == .active && s.routes.destBad[d])
      (if set = .active then s.routes.pointer[d] else 0)
    refine ⟨by simp [destBytes], h0, h1.trans ?_, h2, h3, h4.trans ?_, rfl,
      fun i => (byteAt_append_add (n := 2) rfl _ _).trans (byteAt_toList ..)⟩
    · rw [Bool.eq_iff_iff, Bool.and_eq_true, beq_iff_eq, decide_eq_true_iff]
    · split <;> rfl
  · have hset : r = s.routes.get set := by rw [hr]; cases set <;> rfl
    rw [hb, readEntry_group, ← hset, ← he]
    obtain ⟨h0, h1, h2, h3⟩ := groupFlags_bits e.valid e.echo (set == .active && s.routes.groupBad[g])
    refine ⟨by simp [groupBytes], h0, h1, h2.trans ?_, h3, rfl,
      fun i => (byteAt_append_add (n := 2) rfl _ _).trans (byteAt_toList ..)⟩
    rw [Bool.eq_iff_iff, Bool.and_eq_true, beq_iff_eq, decide_eq_true_iff]
  · rw [readEntry_counters_link hl, counterAt_of_lt]
  · rw [readEntry_counters_link hl]
    exact bytes32_setWidth _
  · rw [harg, readEntry_counters_element]
  · change b = s.commitStatusBytes at hb
    subst hb
    refine ⟨?_, fun h => ?_, fun q n f h => ?_, commitStatus_noRecord, fun r h => ?_, commitStatus_scrub s⟩
    · rw [commitStatusBytes_eq, List.length_append, List.length_append, commitStateBytes_length, recordBytes_length]; rfl
    · rw [commitStatusBytes_eq, List.take_left' (commitStateBytes_length _), h]; rfl
    · obtain ⟨h0, h1, h2, h4⟩ := commitStatus_active h
      refine ⟨h0, ?_, h2, fun hn => ?_⟩
      · rw [h1]; exact commitRequestBits_toNat q
      · rw [h4, BitVec.toNat_ofNat, Nat.mod_eq_of_lt (by omega)]
    · obtain ⟨h6, h7, h8, h10, h11, h12, h14⟩ := commitStatus_record h
      refine ⟨h6, ?_, h8, ?_, fun d hd => ?_, fun g hg => ?_, fun hne => ?_, h14⟩
      · rw [h7]; exact commitRequestBits_toNat r.request
      · rw [h10]; cases r.outcome <;> rfl
      · rw [h11, h12, hd]
        exact ⟨rfl, natHalf_toNat (by omega)⟩
      · rw [h11, h12, hg]
        exact ⟨rfl, natHalf_toNat (by omega)⟩
      · rw [h11, h12]
        cases ho : r.outcome with
        | checkFailed e => exact absurd ho (hne e)
        | done | late | abandoned | cancelled => exact ⟨rfl, half_hiByte_loByte 0⟩
  · subst hb
    refine ⟨rfl, half_hiByte_loByte _, ?_, fun h => natByte_toNat (by omega), ?_, fun n h => ?_, fun h => ?_,
      fun h => natByte_toNat (by omega)⟩
    · cases h : s.epoch.sync <;> simp [State.readEntry, State.epochStatusBytes, bytes16, h, SyncState.code]
    · exact epochStatus_flags s
    · simp [State.readEntry, State.epochStatusBytes, bytes16, h, halfAt]
    · simp [State.readEntry, State.epochStatusBytes, bytes16, h, halfAt]
  · change b = s.bootStatusBytes at hb
    have hflags : (byteAt b 2).toNat = _ := hb ▸ bootStatus_flags s
    rw [bootStatusBytes_eq] at hb
    subst hb
    refine ⟨rfl, ?_, ?_, hflags, fun h => natByte_toNat (by omega), natHalf_toNat, natHalf_toNat, fun i status h => ?_,
      fun h => ?_, rfl⟩
    · cases h : s.boot.state <;> rfl
    · cases h : s.boot.cause <;> rfl
    · rw [h]
      exact ⟨natHalf_toNat, rfl⟩
    · rw [h]
      exact ⟨half_hiByte_loByte _, rfl⟩
  · change b = s.identityBytes at hb
    subst hb
    refine ⟨rfl, half_hiByte_loByte _, rfl, rfl, ?_, fun h => ?_, fun why l h => ⟨?_, ?_⟩,
      fun h => natByte_toNat (by omega)⟩
    · cases h : s.agent.phase <;> simp [State.identityBytes, bytes16, h]
    · simp [State.identityBytes, bytes16, h]
    · cases why <;> simp [State.identityBytes, bytes16, h, DiscardReason.code]
    · have hlink : byteAt s.identityBytes 6 = natByte l.val := by simp [State.identityBytes, bytes16, h]
      rw [hlink, natByte_toNat (by omega)]

end Sys2Proof.Machine
end

section
/-! SUPPORT. Receiver events and the timers of a link (spec/02_fabric_links.md, R22, R26, R27, R30, R33). -/

namespace Sys2Proof.Machine

variable {s : State} {l : LinkId} {u : LinkUnit}

/-! ### One link or its link unit changed -/

theorem port_modPort (s : State) (l m : LinkId) (f : Port → Port) :
    (s.modPort l f).port m = if m = l then f (s.port l) else s.port m := by
  split <;> rename_i h
  · rw [h, port_modPort_self]
  · exact port_modPort_ne h f

theorem port_modUnit (s : State) (l m : LinkId) (g : LinkUnit → LinkUnit) :
    (s.modUnit l g).port m = if m = l then { s.port l with unit := g (s.port l).unit } else s.port m :=
  port_modPort s l m _

/-- A change of a link unit is what it makes of the unit as it stands. -/
theorem modUnit_congr {f g : LinkUnit → LinkUnit} (h : f (s.port l).unit = g (s.port l).unit) :
    s.modUnit l f = s.modUnit l g :=
  modPort_congr (by rw [h])

/-! ### Lock lost and gained (R22, R27, R30, R33) -/

section
variable {d : Nat}

theorem loseLock_qualify (h : u.state = .qualify) :
    u.loseLock d = { u with state := .seek, qualRun := 0, qualified := false } := by
  simp only [LinkUnit.loseLock, h]

theorem loseLock_starts (h : u.state = .up ∨ u.state = .draining) (ht : u.lossTimer = none) :
    u.loseLock d = { u with lossTimer := some d } := by
  rcases h with h | h <;> simp [LinkUnit.loseLock, h, ht]

theorem loseLock_other (h : u.state ≠ .qualify) (ht : u.state = .up ∨ u.state = .draining → u.lossTimer ≠ none) :
    u.loseLock d = u := by
  unfold LinkUnit.loseLock
  split <;> rename_i hs
  · exact absurd hs h
  · exact if_pos (Option.isSome_iff_ne_none.2 (ht (.inl hs)))
  · exact if_pos (Option.isSome_iff_ne_none.2 (ht (.inr hs)))
  all_goals rfl

end

theorem comeIntoLock_seek (h : u.state = .seek) : u.comeIntoLock = { u with state := .qualify, qualRun := 0 } := by
  simp only [LinkUnit.comeIntoLock, h]

theorem comeIntoLock_service (h : u.state = .up ∨ u.state = .draining) : u.comeIntoLock = { u with lossTimer := none } := by
  rcases h with h | h <;> simp only [LinkUnit.comeIntoLock, h]

theorem comeIntoLock_other (h : u.state ≠ .seek) (hu : u.state ≠ .up) (hd : u.state ≠ .draining) : u.comeIntoLock = u := by
  unfold LinkUnit.comeIntoLock
  split <;> rename_i hs
  · exact absurd hs h
  · exact absurd hs hu
  · exact absurd hs hd
  all_goals rfl

/-- R22: SIGNAL restored on an aligned link, and ALIGNED gained with SIGNAL present, bring it into lock. -/
theorem regain_signal (hs : u.signal = false) (ha : u.aligned = true) :
    u.regain { u with signal := true } = ({ u with signal := true } : LinkUnit).comeIntoLock := by
  simp [LinkUnit.regain, LinkUnit.inLock, hs, ha]

theorem regain_aligned (hs : u.signal = true) (ha : u.aligned = false) :
    u.regain { u with aligned := true } = ({ u with aligned := true } : LinkUnit).comeIntoLock := by
  simp [LinkUnit.regain, LinkUnit.inLock, hs, ha]

theorem regain_signal_kept (h : u.signal = true ∨ u.aligned = false) :
    u.regain { u with signal := true } = { u with signal := true } := by
  rcases h with h | h <;> simp [LinkUnit.regain, LinkUnit.inLock, h]

theorem regain_aligned_kept (h : u.signal = false ∨ u.aligned = true) :
    u.regain { u with aligned := true } = { u with aligned := true } := by
  rcases h with h | h <;> simp [LinkUnit.regain, LinkUnit.inLock, h]

theorem inLock_iff : u.inLock = true ↔ u.signal = true ∧ u.aligned = true := Bool.and_eq_true_iff

theorem inLock_eq_false_iff : u.inLock = false ↔ u.signal = false ∨ u.aligned = false := Bool.and_eq_false_iff

/-! ### Timers (R26, R33) -/

theorem blankExpiry_lock (h : u.state = .blank) (ht : u.blankTimer ≠ none) (hl : u.inLock = true) :
    u.blankExpiry = { u with state := .qualify, blankTimer := none, qualRun := 0 } := by
  simp [LinkUnit.blankExpiry, h, Option.isSome_iff_ne_none.2 ht, hl]

theorem blankExpiry_noLock (h : u.state = .blank) (ht : u.blankTimer ≠ none) (hl : u.inLock = false) :
    u.blankExpiry = { u with state := .seek, blankTimer := none } := by
  simp [LinkUnit.blankExpiry, h, Option.isSome_iff_ne_none.2 ht, hl]

theorem lossExpiry_running (h : (s.port l).unit.state = .up ∨ (s.port l).unit.state = .draining)
    (ht : (s.port l).unit.lossTimer ≠ none) :
    s.lossExpiry l = s.enterFault l (if (s.port l).unit.signal then .alignLost else .los) := by
  simp [State.lossExpiry, inService_iff.2 h, Option.isSome_iff_ne_none.2 ht]

/-! ### The rows: a link unit that becomes `v` -/

section
variable {v : LinkUnit} (hr : s.inReset = false)
include hr

theorem exec_signalLost
    (h : ({ (s.port l).unit with signal := false, aligned := false } : LinkUnit).loseLock s.lossDuration = v) :
    exec (.signalLost l) s = .next (s.modUnit l fun _ => v) :=
  (act_run _ hr : execSignalLost l s = _).trans (congrArg _ (modUnit_congr h))

theorem exec_alignmentLost (h : ({ (s.port l).unit with aligned := false } : LinkUnit).loseLock s.lossDuration = v) :
    exec (.alignmentLost l) s = .next (s.modUnit l fun _ => v) :=
  (act_run _ hr : execAlignmentLost l s = _).trans (congrArg _ (modUnit_congr h))

theorem exec_signalRestored (h : (s.port l).unit.regain { (s.port l).unit with signal := true } = v) :
    exec (.signalRestored l) s = .next (s.modUnit l fun _ => v) :=
  (act_run _ hr : execSignalRestored l s = _).trans (congrArg _ (modUnit_congr h))

theorem exec_alignmentGained (h : (s.port l).unit.regain { (s.port l).unit with aligned := true } = v) :
    exec (.alignmentGained l) s = .next (s.modUnit l fun _ => v) :=
  (act_run _ hr : execAlignmentGained l s = _).trans (congrArg _ (modUnit_congr h))

theorem exec_blankTimerExpiry (h : (s.port l).unit.blankExpiry = v) :
    exec (.blankTimerExpiry l) s = .next (s.modUnit l fun _ => v) :=
  (act_run _ hr : execBlankTimerExpiry l s = _).trans (congrArg _ (modUnit_congr h))

theorem exec_lossTimerExpiry : exec (.lossTimerExpiry l) s = .next (s.lossExpiry l) :=
  (act_run _ hr : execLossTimerExpiry l s = _)

end

/-- Settles O8: the changes of one link, then each event by the equations of the link unit it changes. -/
theorem lockEventsAndLinkTimers : Obligations.LockEventsAndLinkTimers := by
  refine ⟨fun s l m f g => ⟨rfl, port_modPort s l m f, port_modUnit s l m g, rfl, rfl⟩,
    fun s l hr u hu => ⟨fun h => ?_, fun h ht => ?_, fun h ht => ?_⟩,
    fun s l hr u hu => ⟨fun hsig hal => ⟨fun h => ?_, fun h => ?_, fun h1 h2 h3 => ?_⟩,
      fun hsig hal => ⟨fun h => ?_, fun h => ?_, fun h1 h2 h3 => ?_⟩, fun h => ?_, fun h => ?_⟩,
    fun s l hr u hu => ⟨fun h ht => ⟨fun hsig hal => ?_, fun hl => ?_⟩, fun h ht => ⟨fun hsig => ?_, fun hsig => ?_⟩⟩⟩ <;>
    subst hu
  · exact ⟨exec_signalLost hr (loseLock_qualify h), exec_alignmentLost hr (loseLock_qualify h)⟩
  · exact ⟨exec_signalLost hr (loseLock_starts h ht), exec_alignmentLost hr (loseLock_starts h ht)⟩
  · exact ⟨exec_signalLost hr (loseLock_other h ht), exec_alignmentLost hr (loseLock_other h ht)⟩
  · exact exec_signalRestored hr ((regain_signal hsig hal).trans (comeIntoLock_seek h))
  · exact exec_signalRestored hr ((regain_signal hsig hal).trans (comeIntoLock_service h))
  · exact exec_signalRestored hr ((regain_signal hsig hal).trans (comeIntoLock_other h1 h2 h3))
  · exact exec_alignmentGained hr ((regain_aligned hsig hal).trans (comeIntoLock_seek h))
  · exact exec_alignmentGained hr ((regain_aligned hsig hal).trans (comeIntoLock_service h))
  · exact exec_alignmentGained hr ((regain_aligned hsig hal).trans (comeIntoLock_other h1 h2 h3))
  · exact exec_signalRestored hr (regain_signal_kept h)
  · exact exec_alignmentGained hr (regain_aligned_kept h)
  · exact exec_blankTimerExpiry hr (blankExpiry_lock h ht (inLock_iff.2 ⟨hsig, hal⟩))
  · exact exec_blankTimerExpiry hr (blankExpiry_noLock h ht (inLock_eq_false_iff.2 hl))
  · rw [exec_lossTimerExpiry hr, lossExpiry_running h ht, hsig]; rfl
  · rw [exec_lossTimerExpiry hr, lossExpiry_running h ht, hsig]; rfl

end Sys2Proof.Machine
end

section
/-! SUPPORT. Departures from and entries to a state of a link (spec/02_fabric_links.md, R32, R37, R40; R109, R111, R119, R120, R139):
what LINK_DISABLE NOW and entry to FAULT have in common, said once, and entry to UP. -/

namespace Sys2Proof.Machine

variable {s : State} {l : LinkId}

/-! ### Change notices (R119, R120, R124) -/

theorem markFlowDue_eq (p : Port) : p.markFlowDue = { p with flowDue := p.flowDue || p.unit.state.inService } := by
  unfold Port.markFlowDue
  split <;> rename_i h
  · rw [h, Bool.or_true]
  · rw [Bool.eq_false_iff.2 h, Bool.or_false]

theorem changeNotice_flow (s : State) :
    s.changeNotice.flow =
      if s.flow.gapTimer = none then { s.flow with gapTimer := some (s.param .flowGap) }
      else { s.flow with mapPending := true } := by
  unfold State.changeNotice
  split <;> rename_i h
  · rw [if_pos h]; rfl
  · rw [if_neg (by simp [h])]

theorem changeNotice_port_eq (s : State) (m : LinkId) :
    s.changeNotice.port m = { s.port m with flowDue := (s.changeNotice.port m).flowDue } := by
  rw [changeNotice_port, markFlowDue_eq]
  split <;> rfl

/-! ### A flush request (R109, R111) -/

/-- What a flush request makes of the queues of a link that no entry to UP waits on. -/
def LinkQueues.flushRequested (q : LinkQueues) : LinkQueues :=
  if q.flushing = true then q
  else if q.total = 0 then { q with xoff := Vector.replicate 4 false }
  else { q with flushing := true }

theorem requestFlush_eq (h : (s.port l).unit.state ≠ .qualify) :
    s.requestFlush l = s.modPort l fun p => { p with queues := p.queues.flushRequested } := by
  unfold State.requestFlush
  split <;> rename_i hf
  · exact (modPort_of_fixed (by rw [LinkQueues.flushRequested, if_pos hf])).symm
  · dsimp only
    split <;> rename_i ht
    · have hq : (s.port l).queues.total = 0 := by rw [port_modPort_self] at ht; exact ht
      rw [State.completeFlush, modPort_modPort, port_modPort_self, if_neg (by simp [h])]
      exact modPort_congr (by simp [LinkQueues.flushRequested, hf, hq])
    · have hq : (s.port l).queues.total ≠ 0 := by rw [port_modPort_self] at ht; exact ht
      exact modPort_congr (by simp [LinkQueues.flushRequested, hf, hq])

/-! ### Departures (R37, R40, R109, R119, R120, R139) -/

/-- What LINK_DISABLE NOW and entry to FAULT have in common: the link unit changes, and what the link leaves follows. -/
def State.leave (s : State) (l : LinkId) (f : LinkUnit → LinkUnit) : State :=
  ((s.modUnit l f).abandonTraffic l (s.port l).unit.state).tellLeftUp (s.port l).unit.state

theorem disableNow_eq_leave (s : State) (l : LinkId) : s.disableNow l = s.leave l LinkUnit.disable := rfl

theorem enterFault_eq_leave (s : State) (l : LinkId) (cause : FaultCause) :
    s.enterFault l cause =
      (s.leave l fun u => u.fail cause s.epoch.count (s.port l).map.recovery).latchLink l .fault := rfl

/-- The link that leaves: out of UP and DRAINING its control queue is emptied and a flush is requested. -/
def Port.left (f : LinkUnit → LinkUnit) (p : Port) : Port :=
  { p with
    unit := f p.unit
    sched := if p.unit.state.inService then { p.sched with control := [] } else p.sched
    queues := if p.unit.state.inService then p.queues.flushRequested else p.queues }

/-- The element when the link has left, but for the change notice of a departure from UP. -/
def State.left (s : State) (l : LinkId) (f : LinkUnit → LinkUnit) : State :=
  { s.modPort l (Port.left f) with
    elementCounters :=
      if (s.port l).unit.state.inService then (s.emptyControl l).elementCounters else s.elementCounters
    notice := { s.notice with
      pending := s.notice.pending ||
        ((s.port l).unit.state.inService && (s.port l).sched.control.any fun x => x.kind == .notice) } }

/-- The responses of a control queue count alike whatever the link unit is. -/
theorem emptyControl_modUnit_elementCounters (s : State) (l : LinkId) (f : LinkUnit → LinkUnit) :
    ((s.modUnit l f).emptyControl l).elementCounters = (s.emptyControl l).elementCounters := by
  rw [emptyControl_eq, emptyControl_eq, State.modUnit, countElementTimes_modPort, port_modPort_self]
  rfl

theorem abandonTraffic_eq {f : LinkUnit → LinkUnit} (hf : (f (s.port l).unit).state ≠ .qualify) :
    (s.modUnit l f).abandonTraffic l (s.port l).unit.state = s.left l f := by
  unfold State.abandonTraffic State.left
  split <;> rename_i h
  · rw [requestFlush_eq (by rw [emptyControl_port_self, port_modUnit_self]; exact hf),
      ← emptyControl_modUnit_elementCounters s l f, h, Bool.true_and, emptyControl_eq, port_modUnit_self]
    have ports : ((s.modUnit l f).modPort l fun p => { p with sched := { p.sched with control := [] } }).modPort l
        (fun p => { p with queues := p.queues.flushRequested }) = s.modPort l (Port.left f) := by
      rw [State.modUnit, modPort_modPort, modPort_modPort]
      exact modPort_congr (by simp [Port.left, h])
    rw [← ports]
    rfl
  · have ports : s.modUnit l f = s.modPort l (Port.left f) := modPort_congr (by simp [Port.left, h])
    rw [← ports, Bool.eq_false_iff.2 h, Bool.false_and, Bool.or_false]
    rfl

theorem tellLeftUp_up (s : State) : s.tellLeftUp .up = s.changeNotice := rfl

theorem tellLeftUp_ne {x : LinkState} (h : x ≠ .up) : s.tellLeftUp x = s := if_neg (by simpa using h)

/-- What LINK_DISABLE NOW and entry to FAULT do, by the state that the link leaves. -/
theorem leave_eq {f : LinkUnit → LinkUnit} (hf : (f (s.port l).unit).state ≠ .qualify) :
    s.leave l f = if (s.port l).unit.state = .up then (s.left l f).changeNotice else s.left l f := by
  rw [State.leave, abandonTraffic_eq hf]
  split <;> rename_i h
  · rw [h, tellLeftUp_up]
  · exact tellLeftUp_ne h

section
variable {f : LinkUnit → LinkUnit} (hf : (f (s.port l).unit).state.inService = false)
  (hq : (f (s.port l).unit).state ≠ .qualify)

theorem left_port_self (s : State) (l : LinkId) (f : LinkUnit → LinkUnit) :
    (s.left l f).port l = (s.port l).left f := port_modPort_self s l _

theorem left_port_ne {m : LinkId} (h : m ≠ l) (f : LinkUnit → LinkUnit) : (s.left l f).port m = s.port m :=
  port_modPort_ne h _

include hq in
theorem leave_port_ne {m : LinkId} (h : m ≠ l) :
    (s.leave l f).port m = if (s.port l).unit.state = .up then s.changeNotice.port m else s.port m := by
  rw [leave_eq hq]
  split
  · rw [changeNotice_port, changeNotice_port, left_port_ne h]; rfl
  · exact left_port_ne h f

include hq in
theorem leave_flow : (s.leave l f).flow = if (s.port l).unit.state = .up then s.changeNotice.flow else s.flow := by
  rw [leave_eq hq]
  split
  · rw [changeNotice_flow, changeNotice_flow]; rfl
  · rfl

include hf hq

/-- A link that is out of service takes no FLOW-due from the change notice of its own departure. -/
theorem leave_port_self : (s.leave l f).port l = (s.port l).left f := by
  have noDue : ((s.port l).left f).markFlowDue = (s.port l).left f := by
    rw [Port.markFlowDue, if_neg (by rw [Port.left, hf]; exact Bool.false_ne_true)]
  rw [leave_eq hq]
  split
  · rw [changeNotice_port, left_port_self, noDue, ite_self]
  · exact left_port_self s l f

end

/-- But for the links and the flow unit, a departure does what `State.left` says. -/
theorem leave_frame {f : LinkUnit → LinkUnit} (hq : (f (s.port l).unit).state ≠ .qualify) :
    s.leave l f = { s.left l f with ports := (s.leave l f).ports, flow := (s.leave l f).flow } := by
  rw [leave_eq hq]
  split
  · rw [changeNotice_frame]
  · rfl

/-- The link that leaves, with the cases of the flush request written out. -/
theorem left_eq (p : Port) (f : LinkUnit → LinkUnit) :
    p.left f = { p with
      unit := f p.unit
      sched := if p.unit.state.inService then { p.sched with control := [] } else p.sched
      queues :=
        if p.unit.state.inService = false ∨ p.queues.flushing = true then p.queues
        else if p.queues.total = 0 then { p.queues with xoff := Vector.replicate 4 false }
        else { p.queues with flushing := true } } := by
  unfold Port.left LinkQueues.flushRequested
  cases p.unit.state.inService <;> simp

/-! ### Entry to FAULT (R40) -/

section
variable (s l) (cause : FaultCause)

theorem enterFault_port_self :
    (s.enterFault l cause).port l = { (s.port l).left (·.fail cause s.epoch.count (s.port l).map.recovery) with
      flags := setBitAt (s.port l).flags (LinkFlag.bit .fault) } := by
  rw [enterFault_eq_leave, latchLink_port_self, leave_port_self rfl (by exact LinkState.noConfusion)]
  rfl

theorem enterFault_port_ne {m : LinkId} (h : m ≠ l) :
    (s.enterFault l cause).port m = if (s.port l).unit.state = .up then s.changeNotice.port m else s.port m := by
  rw [enterFault_eq_leave, latchLink_port_ne _ h, leave_port_ne (by exact LinkState.noConfusion) h]

theorem enterFault_notice :
    (s.enterFault l cause).notice = { s.notice with
      pending := s.notice.pending ||
        ((s.port l).unit.state.inService && (s.port l).sched.control.any fun x => x.kind == .notice) ||
        (!s.linkFlag l .fault && !s.notice.linkMasks.getLsbD (LinkFlag.bit .fault)) } := by
  rw [enterFault_eq_leave, latchLink_notice, State.linkFlag, leave_port_self rfl (by exact LinkState.noConfusion),
    leave_frame (by exact LinkState.noConfusion)]
  rfl

theorem enterFault_flow :
    (s.enterFault l cause).flow = if (s.port l).unit.state = .up then s.changeNotice.flow else s.flow := by
  rw [enterFault_eq_leave, latchLink_frame]
  exact leave_flow (by exact LinkState.noConfusion)

theorem enterFault_elementCounters :
    (s.enterFault l cause).elementCounters =
      if (s.port l).unit.state.inService then (s.emptyControl l).elementCounters else s.elementCounters := by
  rw [enterFault_eq_leave, latchLink_frame, leave_frame (by exact LinkState.noConfusion)]
  rfl

end

/-! ### Entry to UP (R32, R124) -/

section
variable (s l)

theorem enterUp_port_self :
    (s.enterUp l).port l = { s.port l with
      unit := { (s.port l).unit with
        state := .up, errorCount := 0, markerRun := 0, upCount := 0, upRising := true, flapDue := false, qualified := false,
        lossTimer := none }
      flowDue := true
      flags := setBitAt (s.port l).flags (LinkFlag.bit .linkUp) } := by
  rw [State.enterUp, changeNotice_port, latchLink_port_self, port_modPort_self, markFlowDue_eq, Bool.true_or, ite_self]

theorem enterUp_port_ne {m : LinkId} (h : m ≠ l) : (s.enterUp l).port m = s.changeNotice.port m := by
  rw [State.enterUp, changeNotice_port, changeNotice_port, latchLink_port_ne _ h, port_modPort_ne h, latchLink_frame]
  rfl

theorem enterUp_flow : (s.enterUp l).flow = s.changeNotice.flow := by
  rw [State.enterUp, changeNotice_flow, changeNotice_flow, latchLink_frame]
  rfl

theorem enterUp_notice :
    (s.enterUp l).notice = { s.notice with
      pending := s.notice.pending || (!s.linkFlag l .linkUp && !s.notice.linkMasks.getLsbD (LinkFlag.bit .linkUp)) } := by
  rw [State.enterUp, changeNotice_frame, latchLink_notice, State.linkFlag, port_modPort_self]
  rfl

end

/-! ### The statement -/

/-- R181: a flag that has been set in the flags of a link stands latched, and every other one stands as it was. -/
theorem linkFlag_of_setBitAt_self {t : State} {f : LinkFlag} (h : (t.port l).flags = setBitAt (s.port l).flags f.bit) :
    t.linkFlag l f = true := by
  rw [State.linkFlag, h]
  exact setBitAt_self _ (by cases f <;> decide)

theorem linkFlag_of_setBitAt_ne {t : State} {f g : LinkFlag} (h : (t.port l).flags = setBitAt (s.port l).flags f.bit)
    (hg : g ≠ f) : t.linkFlag l g = s.linkFlag l g := by
  rw [State.linkFlag, h]
  exact setBitAt_ne _ (linkFlag_bit_ne hg)

/-- Settles O9: entry to FAULT by what a departure does (`Port.left`, `State.left`), entry to UP by its change of one link. -/
theorem entriesToFaultAndUp : Obligations.EntriesToFaultAndUp := by
  refine ⟨fun x => inService_iff, fun s l cause t u ht hu => ?_, fun s l t ht => ?_⟩
  · subst ht hu
    have flags : ((s.enterFault l cause).port l).flags = setBitAt (s.port l).flags (LinkFlag.bit .fault) := by
      rw [enterFault_port_self]
    refine ⟨?_, linkFlag_of_setBitAt_self flags, fun g => linkFlag_of_setBitAt_ne flags, enterFault_notice s l cause,
      fun h => ?_, fun h => ?_, fun h => ⟨?_, fun m hm => ?_⟩, fun h => ⟨?_, fun m hm => ?_⟩, ?_⟩
    · rw [enterFault_port_self, left_eq]; rfl
    · rw [enterFault_elementCounters, if_pos h]
    · rw [enterFault_elementCounters, h]; rfl
    · rw [enterFault_flow, if_pos h]
    · rw [enterFault_port_ne _ _ _ hm, if_pos h]; exact changeNotice_port_eq s m
    · rw [enterFault_flow, if_neg h]
    · rw [enterFault_port_ne _ _ _ hm, if_neg h]
    · rw [enterFault_frame]; exact ⟨rfl, rfl, rfl, rfl, rfl, rfl⟩
  · subst ht
    have flags : ((s.enterUp l).port l).flags = setBitAt (s.port l).flags (LinkFlag.bit .linkUp) := by
      rw [enterUp_port_self]
    refine ⟨?_, linkFlag_of_setBitAt_self flags, fun g => linkFlag_of_setBitAt_ne flags, enterUp_notice s l,
      fun h => ⟨?_, fun m hm => ?_⟩, fun h => ⟨?_, fun m hm => ?_⟩, ?_⟩
    · rw [enterUp_port_self]
    · rw [enterUp_flow, changeNotice_flow, if_pos h]
    · rw [enterUp_port_ne _ _ hm, changeNotice_port, if_pos h, markFlowDue_eq]
    · rw [enterUp_flow, changeNotice_flow, if_neg h]
    · rw [enterUp_port_ne _ _ hm, changeNotice_port, if_neg h]
    · rw [enterUp_frame]; exact ⟨rfl, rfl, rfl, rfl, rfl, rfl, rfl⟩

end Sys2Proof.Machine
end

section
/-! SUPPORT. Reports of the classifier and the boundary work of a link unit (spec/02_fabric_links.md, R28, R29, R31, R34 to R36, R39,
R43). -/

namespace Sys2Proof.Machine

variable {s : State} {l : LinkId}

theorem modUnit_modUnit (s : State) (l : LinkId) (f g : LinkUnit → LinkUnit) :
    (s.modUnit l f).modUnit l g = s.modUnit l (g ∘ f) := modPort_modPort l _ _

/-! ### Reports in QUALIFY (R28, R29, R31) -/

theorem compareRuns_miswire (h : s.param .qualifyCount ≤ (s.port l).unit.mismatchRun) :
    s.compareRuns l = s.enterFault l .miswire := if_pos h

section
variable (hm : (s.port l).unit.mismatchRun < s.param .qualifyCount)
include hm

theorem compareRuns_qualified (hn : (s.port l).unit.qualified = false)
    (hq : s.param .qualifyCount ≤ (s.port l).unit.qualRun) :
    s.compareRuns l =
      if (s.port l).queues.flushing then s.modUnit l fun u => { u with qualified := true } else s.enterUp l := by
  rw [State.compareRuns, if_neg (Nat.not_le.2 hm), if_pos (by simp [hn, hq])]

theorem compareRuns_waits (h : (s.port l).unit.qualified = true ∨ (s.port l).unit.qualRun < s.param .qualifyCount) :
    s.compareRuns l = s := by
  rw [State.compareRuns, if_neg (Nat.not_le.2 hm), if_neg]
  rcases h with h | h <;> simp [h]

end

/-- R28, R29: the runs of a link unit after a report in QUALIFY. -/
theorem moveMismatch_moveQual (u : LinkUnit) (r : Report) :
    (u.moveQual r).moveMismatch r = { u with
      qualRun := if u.qualified then u.qualRun else
        (match r with
          | .idle true => u.qualRun + 1
          | .other => u.qualRun
          | .idle false | .marker | .checkFailed => 0)
      mismatchRun :=
        (match r with
          | .idle true => 0
          | .idle false => u.mismatchRun + 1
          | .marker | .checkFailed | .other => u.mismatchRun) } := by
  unfold LinkUnit.moveQual
  by_cases hq : u.qualified = true
  · rw [if_pos hq, if_pos hq]
    cases r with
    | idle m => cases m <;> rfl
    | _ => rfl
  · rw [if_neg hq, if_neg hq]
    cases r with
    | idle m => cases m <;> rfl
    | _ => rfl

theorem report_qualify {r : Report} {v : LinkUnit} (h : (s.port l).unit.state = .qualify)
    (hv : v = ((s.port l).unit.moveQual r).moveMismatch r) : s.report l r = (s.modUnit l fun _ => v).compareRuns l := by
  simp only [State.report, h]
  rw [modUnit_congr (g := fun _ => v) hv.symm]

/-! ### Reports in UP and DRAINING (R31, R34, R35) -/

/-- A report in service: the counts of the link unit move, and the fault that they bring follows. -/
theorem report_service {r : Report} {v : LinkUnit} (h : (s.port l).unit.state = .up ∨ (s.port l).unit.state = .draining)
    (hv : v = ((s.port l).unit.moveService r).moveMismatch r) :
    s.report l r = ((s.modUnit l fun _ => v).serviceFault l r).elim (s.modUnit l fun _ => v)
      ((s.modUnit l fun _ => v).enterFault l) := by
  have moved : (s.modUnit l fun u => (u.moveService r).moveMismatch r) = s.modUnit l fun _ => v := modUnit_congr hv.symm
  rcases h with h | h <;>
  · simp only [State.report, h, moved]
    split <;> rename_i hf <;> rw [hf] <;> rfl

section
variable {v : LinkUnit}

theorem serviceFault_marker : (s.modUnit l fun _ => v).serviceFault l .marker =
    if 4 ≤ v.markerRun then some .remote else none := by
  rw [State.serviceFault, port_modUnit_self]

theorem serviceFault_checkFailed : (s.modUnit l fun _ => v).serviceFault l .checkFailed =
    if (s.port l).map.errorLimit ≠ 0 ∧ (s.port l).map.errorLimit.toNat < v.errorCount then some .errorRate else none := by
  rw [State.serviceFault, port_modUnit_self]

theorem serviceFault_idle (b : Bool) : (s.modUnit l fun _ => v).serviceFault l (.idle b) =
    if s.param .qualifyCount ≤ v.mismatchRun then some .miswire else none := by
  rw [State.serviceFault, port_modUnit_self, modUnit_param]

end

/-- Settles O10: the runs as the report moves them, then the comparisons by state and report. -/
theorem reportsToTheLinkUnit : Obligations.ReportsToTheLinkUnit := by
  refine ⟨fun s l r u v hu hs hv => ?_, fun s l u hu hs => ⟨fun v hv => ⟨fun h => ?_, fun h => ?_⟩,
    fun v hv => ⟨fun h0 h => ?_, fun h => ?_⟩, fun b v hv => ⟨fun h => ?_, fun h => ?_⟩, ?_⟩⟩ <;> subst hu
  · rw [report_qualify hs (hv.trans (moveMismatch_moveQual _ _).symm)]
    have after : ((s.modUnit l fun _ => v).port l).unit = v := by rw [port_modUnit_self]
    have queues : ((s.modUnit l fun _ => v).port l).queues = (s.port l).queues := by rw [port_modUnit_self]
    refine ⟨fun h => ?_, fun hm hn hq hf => ?_, fun hm hn hq hf => ?_, fun hm h => ?_⟩
    · exact compareRuns_miswire (by rw [after]; exact h)
    · rw [compareRuns_qualified (by rw [after]; exact hm) (by rw [after]; exact hn) (by rw [after]; exact hq), queues, hf]
      rfl
    · rw [compareRuns_qualified (by rw [after]; exact hm) (by rw [after]; exact hn) (by rw [after]; exact hq), queues, hf,
        if_pos rfl, modUnit_modUnit]
      rfl
    · exact compareRuns_waits (by rw [after]; exact hm) (by rw [after]; exact h)
  · rw [report_service hs hv, serviceFault_marker, if_pos h]; rfl
  · rw [report_service hs hv, serviceFault_marker, if_neg (Nat.not_le.2 h)]; rfl
  · rw [report_service hs hv, serviceFault_checkFailed, if_pos ⟨h0, h⟩]; rfl
  · rw [report_service hs hv, serviceFault_checkFailed, if_neg fun ⟨h0, hlt⟩ => h.elim h0 (Nat.not_le.2 hlt)]; rfl
  · have hv : v = ((s.port l).unit.moveService (.idle b)).moveMismatch (.idle b) := by rw [hv]; cases b <;> rfl
    rw [report_service hs hv, serviceFault_idle, if_pos h]; rfl
  · have hv : v = ((s.port l).unit.moveService (.idle b)).moveMismatch (.idle b) := by rw [hv]; cases b <;> rfl
    rw [report_service hs hv, serviceFault_idle, if_neg (Nat.not_le.2 h)]; rfl
  · exact report_service hs rfl

/-! ### Boundary work and what follows it (R34, R36, R39, R43) -/

theorem exec_linkBoundaryWork {n : Nat} {v : LinkUnit} (hr : s.inReset = false) (hn : (s.port l).boundaries = n + 1)
    (h : (s.port l).unit.boundaryWork (s.param .flapClear) = v) :
    exec (.linkBoundaryWork l) s = .next (s.modPort l fun p => { p with boundaries := n, unit := v }) := by
  refine (act_run _ hr : execLinkBoundaryWork l s = _).trans (congrArg _ ?_)
  simp only [State.linkBoundary, hn]
  exact modPort_congr (by rw [h])

section
variable {u : LinkUnit} {n : Nat}

theorem boundaryWork_rising (h : u.state = .up) (hr : u.upRising = true) :
    u.boundaryWork n = { u with
      errorCount := 0, upCount := min 65535 (u.upCount + 1), flapDue := decide (n ≤ min 65535 (u.upCount + 1)) } := by
  simp only [LinkUnit.boundaryWork, h, hr, if_true]

theorem boundaryWork_stopped (h : u.state = .up) (hr : u.upRising = false) : u.boundaryWork n = { u with errorCount := 0 } := by
  simp [LinkUnit.boundaryWork, h, hr]

theorem boundaryWork_draining (h : u.state = .draining) :
    u.boundaryWork n = { u with errorCount := 0, drainCount := u.drainCount + 1 } := by
  simp only [LinkUnit.boundaryWork, h]

theorem boundaryWork_fault (h : u.state = .fault) : u.boundaryWork n = { u with holdDown := u.holdDown.map (· + 1) } := by
  simp only [LinkUnit.boundaryWork, h]

theorem boundaryWork_other (hu : u.state ≠ .up) (hd : u.state ≠ .draining) (hf : u.state ≠ .fault) : u.boundaryWork n = u := by
  unfold LinkUnit.boundaryWork
  split <;> rename_i hs
  · exact absurd hs hu
  · exact absurd hs hd
  · exact absurd hs hf
  all_goals rfl

end

theorem clearFlaps_due {u : LinkUnit} (h : u.state = .up) (hd : u.flapDue = true) :
    u.clearFlaps = { u with flapCount := 0, upRising := false, flapDue := false } := by
  simp [LinkUnit.clearFlaps, h, hd]

theorem drainAtLimit_due (h : (s.port l).unit.state = .draining)
    (hl : (s.port l).map.drainLimit.toNat ≤ (s.port l).unit.drainCount) :
    s.drainAtLimit l =
      (((s.modUnit l fun u => { u with state := .off, lossTimer := none }).emptyControl l).requestFlush l).latchLink
        l .drainTimeout := by
  rw [State.drainAtLimit, if_pos (by simp [Port.drainDue, h, hl])]
  rfl

/-- The end of the hold-down: the flap count rises, and the link is held or enters BLANK. -/
theorem endHoldDown_due {n : Nat} (h : (s.port l).unit.state = .fault) (hn : (s.port l).unit.holdDown = some n)
    (hl : (s.port l).map.holdDown.toNat ≤ n) {t : State}
    (ht : t = s.modUnit l fun u => { u with holdDown := none, flapCount := min 255 (u.flapCount + 1) }) :
    s.endHoldDown l =
      if (s.port l).map.flapLimit ≠ 0 ∧ (s.port l).map.flapLimit.toNat < min 255 ((s.port l).unit.flapCount + 1) then
        t.latchLink l .flapLimit
      else t.enterBlank l := by
  subst ht
  rw [State.endHoldDown, if_pos (by simp [Port.holdDownDue, h, hn, hl])]
  simp only [port_modUnit_self]

/-- Settles O11: the boundary work by the state of the link, then its three followers. -/
theorem boundaryWorkOfLinks : Obligations.BoundaryWorkOfLinks := by
  intro s l u hr hu
  subst hu
  refine ⟨fun n v hn => ⟨fun h hup hv => ?_, fun h hup hv => ?_, fun h hv => ?_, fun h hv => ?_, fun h1 h2 h3 hv => ?_⟩,
    fun h hd => ?_, fun h hl => ?_, fun n h hn hl => ⟨fun h0 h' => ?_, fun h' => ?_⟩⟩
  · exact exec_linkBoundaryWork hr hn ((boundaryWork_rising h hup).trans hv.symm)
  · exact exec_linkBoundaryWork hr hn ((boundaryWork_stopped h hup).trans hv.symm)
  · exact exec_linkBoundaryWork hr hn ((boundaryWork_draining h).trans hv.symm)
  · exact exec_linkBoundaryWork hr hn ((boundaryWork_fault h).trans hv.symm)
  · exact exec_linkBoundaryWork hr hn ((boundaryWork_other h1 h2 h3).trans hv.symm)
  · exact (act_run _ hr : execFlapClear l s = _).trans (congrArg _ (modUnit_congr (clearFlaps_due h hd)))
  · rw [← modUnit_congr (f := fun u => { u with state := .off, lossTimer := none }) rfl, ← drainAtLimit_due h hl]
    exact (act_run _ hr : execDrainLimit l s = _)
  · refine (act_run _ hr : execHoldDownEnd l s = _).trans (congrArg _ ?_)
    rw [endHoldDown_due h hn hl rfl, if_pos ⟨h0, h'⟩]
    exact congrArg (State.latchLink · l .flapLimit) (modUnit_congr rfl)
  · refine (act_run _ hr : execHoldDownEnd l s = _).trans (congrArg _ ?_)
    rw [endHoldDown_due h hn hl rfl, if_neg fun ⟨h0, hlt⟩ => h'.elim h0 (Nat.not_le.2 hlt), State.enterBlank]
    exact (modPort_modPort ..).trans (modPort_congr rfl)

end Sys2Proof.Machine
end

section
/-! SUPPORT. The link commands (spec/02_fabric_links.md, R25, R37, R38, R45): LINK_ENABLE, LINK_DISABLE and LINK_TEST as requests. -/

namespace Sys2Proof.Machine

variable {s : State} {l : LinkId} {f : Fields}

/-! ### Which row serves a request -/

theorem kind_linkEnable (h : f.command = 0x20) : f.kind = .linkEnable := by rw [Fields.kind, h]; rfl

theorem kind_linkDisableNow (h : f.command = 0x21) (ha : f.arg ≠ 1) : f.kind = .linkDisableNow := by
  rw [Fields.kind, h]; exact if_neg ha

theorem kind_linkDisableDrain (h : f.command = 0x21) (ha : f.arg = 1) : f.kind = .linkDisableDrain := by
  rw [Fields.kind, h]; exact if_pos ha

theorem kind_linkTest (h : f.command = 0x22) : f.kind = .linkTest := by rw [Fields.kind, h]; rfl

/-- R166, R167: the service of the head of the queue, by what its judgement `v` comes to. -/
theorem serve_head_eq {kind : ServiceKind} {judge : Fields → State → Served} {r : Request} {rest : List Request} {v : Served}
    (hq : s.agent.requests = r :: rest) (hk : r.fields.kind = kind) (hv : judge r.fields (s.dropRequest rest) = v) :
    serve kind judge s = v.state.respond r v.status v.data := by
  rw [serve_head hq hk, hv]

/-! ### The link that INDEX names -/

theorem link_none (h : 64 ≤ f.index.toNat) : f.link = none := dif_neg (Nat.not_lt.2 h)

theorem link_some (h : f.index.toNat = l.val) : f.link = some l := by
  rw [Fields.link, dif_pos (by omega)]
  exact congrArg some (Fin.ext h)

/-! ### Judgements -/

section
variable (h : f.link = none)
include h

theorem judgeLinkEnable_none : judgeLinkEnable f s = refuse s .badIndex := by simp only [judgeLinkEnable, h]

theorem judgeLinkDisableNow_none : judgeLinkDisableNow f s = refuse s .badIndex := by simp only [judgeLinkDisableNow, h]

theorem judgeLinkDisableDrain_none : judgeLinkDisableDrain f s = refuse s .badIndex := by
  simp only [judgeLinkDisableDrain, h]

theorem judgeLinkTest_none : judgeLinkTest f s = refuse s .badIndex := by simp only [judgeLinkTest, h]

end

section
variable (h : f.link = some l)
include h

theorem judgeLinkEnable_some :
    judgeLinkEnable f s = if (s.port l).unit.state = .off then taken (s.enterBlank l) else refuse s .busy := by
  simp only [judgeLinkEnable, h]

theorem judgeLinkDisableNow_some :
    judgeLinkDisableNow f s = if f.arg = 0 then taken (s.disableNow l) else refuse s .badValue := by
  simp only [judgeLinkDisableNow, h]

theorem judgeLinkDisableDrain_some : judgeLinkDisableDrain f s = taken (s.disableDrain l) := by
  simp only [judgeLinkDisableDrain, h]

theorem judgeLinkTest_some :
    judgeLinkTest f s =
      if (s.port l).unit.state = .off ∧ (s.port l).queues.flushing = false then taken (s.modPort l Port.toTest)
      else refuse s .busy := by
  simp only [judgeLinkTest, h]

end

/-! ### LINK_DISABLE DRAIN by the state of the link (R38, R39) -/

theorem tellQueuesEmpty_draining (h : (s.port l).unit.state = .draining) :
    s.tellQueuesEmpty l = if (s.port l).queues.total = 0 then s.endDrain l else s := by
  simp [State.tellQueuesEmpty, h]

/-- What LINK_DISABLE DRAIN does at once to a link in UP. -/
theorem disableDrain_up {v : State} (h : (s.port l).unit.state = .up)
    (hv : v = (s.modUnit l fun x =>
      { x with state := .draining, drainCount := 0, flapCount := 0, upRising := false, flapDue := false }).changeNotice) :
    s.disableDrain l = if (s.port l).queues.total = 0 then v.endDrain l else v := by
  subst hv
  simp only [State.disableDrain, h]
  rw [tellQueuesEmpty_draining (by rw [changeNotice_unit, port_modUnit_self]), changeNotice_queues, port_modUnit_self]

theorem disableDrain_draining (h : (s.port l).unit.state = .draining) :
    s.disableDrain l = s.modUnit l fun x => { x with flapCount := 0 } := by
  simp only [State.disableDrain, h]

theorem disableDrain_other (hu : (s.port l).unit.state ≠ .up) (hd : (s.port l).unit.state ≠ .draining) :
    s.disableDrain l = s.disableNow l := by
  unfold State.disableDrain
  split <;> rename_i hs
  · exact absurd hs hu
  · exact absurd hs hd
  all_goals rfl

/-! ### The rows, by what the judgement `v` of the request comes to -/

section
variable {r : Request} {rest : List Request} {v : Served} (hr : s.inReset = false) (hq : s.agent.requests = r :: rest)
include hr hq

theorem exec_linkEnable (hc : r.fields.command = 0x20) (hv : judgeLinkEnable r.fields (s.dropRequest rest) = v) :
    exec .linkEnable s = .next (v.state.respond r v.status v.data) :=
  (act_run _ hr : execLinkEnable s = _).trans (congrArg _ (serve_head_eq hq (kind_linkEnable hc) hv))

theorem exec_linkDisableNow (hc : r.fields.command = 0x21) (ha : r.fields.arg ≠ 1)
    (hv : judgeLinkDisableNow r.fields (s.dropRequest rest) = v) :
    exec .linkDisableNow s = .next (v.state.respond r v.status v.data) :=
  (act_run _ hr : execLinkDisableNow s = _).trans (congrArg _ (serve_head_eq hq (kind_linkDisableNow hc ha) hv))

theorem exec_linkDisableDrain (hc : r.fields.command = 0x21) (ha : r.fields.arg = 1)
    (hv : judgeLinkDisableDrain r.fields (s.dropRequest rest) = v) :
    exec .linkDisableDrain s = .next (v.state.respond r v.status v.data) :=
  (act_run _ hr : execLinkDisableDrain s = _).trans (congrArg _ (serve_head_eq hq (kind_linkDisableDrain hc ha) hv))

theorem exec_linkTest (hc : r.fields.command = 0x22) (hv : judgeLinkTest r.fields (s.dropRequest rest) = v) :
    exec .linkTest s = .next (v.state.respond r v.status v.data) :=
  (act_run _ hr : execLinkTest s = _).trans (congrArg _ (serve_head_eq hq (kind_linkTest hc) hv))

end

/-- R37, R39, R109, R119, R120, R139: LINK_DISABLE NOW in every state, as the statement gives it. -/
theorem disableNow_effect (s : State) (l : LinkId) {t : State} (ht : t = s.disableNow l) :
    t.port l = (s.port l).left LinkUnit.disable ∧
      t.flow = (if (s.port l).unit.state = .up then s.changeNotice.flow else s.flow) ∧
      (∀ m, m ≠ l → t.port m = if (s.port l).unit.state = .up then s.changeNotice.port m else s.port m) ∧
      t = { s.left l LinkUnit.disable with ports := t.ports, flow := t.flow } := by
  have hq : ((s.port l).unit.disable).state ≠ .qualify := LinkState.noConfusion
  rw [ht, disableNow_eq_leave]
  exact ⟨leave_port_self rfl hq, leave_flow hq, fun m hm => leave_port_ne hq hm, leave_frame hq⟩

/-- Settles O45: each request by its judgement, LINK_DISABLE NOW by what a departure does. -/
theorem linkCommands : Obligations.LinkCommands := by
  refine ⟨fun s u r rest f hr hq hf hu => ⟨fun hi => ?_, fun l hl => ⟨fun hc => ⟨fun h => ?_, fun h => ?_⟩,
    fun hc => ⟨fun h0 h1 => ?_, fun h0 => ?_, fun h1 => ⟨u.disableDrain l, ?_, fun h v hv => ?_, ?_, ?_⟩⟩,
    fun hc => ⟨fun h hfl => ?_, fun h => ?_⟩⟩⟩,
    fun s l u t hu ht => ?_⟩ <;> subst hu
  · subst hf
    have hn := link_none hi
    exact ⟨fun hc => exec_linkEnable (v := refuse _ _) hr hq hc (judgeLinkEnable_none hn),
      fun hc ha => exec_linkDisableNow (v := refuse _ _) hr hq hc ha (judgeLinkDisableNow_none hn),
      fun hc ha => exec_linkDisableDrain (v := refuse _ _) hr hq hc ha (judgeLinkDisableDrain_none hn),
      fun hc => exec_linkTest (v := refuse _ _) hr hq hc (judgeLinkTest_none hn)⟩
  · subst hf
    exact exec_linkEnable (v := taken _) hr hq hc ((judgeLinkEnable_some (link_some hl)).trans (if_pos h))
  · subst hf
    exact exec_linkEnable (v := refuse _ _) hr hq hc ((judgeLinkEnable_some (link_some hl)).trans (if_neg h))
  · subst hf
    exact exec_linkDisableNow (v := refuse _ _) hr hq hc h1 ((judgeLinkDisableNow_some (link_some hl)).trans (if_neg h0))
  · subst hf
    have h1 : r.fields.arg ≠ 1 := fun h1 => absurd (h0.symm.trans h1) (by decide)
    exact exec_linkDisableNow (v := taken _) hr hq hc h1 ((judgeLinkDisableNow_some (link_some hl)).trans (if_pos h0))
  · subst hf
    exact exec_linkDisableDrain (v := taken _) hr hq hc h1 (judgeLinkDisableDrain_some (link_some hl))
  · rw [disableDrain_up (s := s.dropRequest rest) h hv]
    exact ⟨fun h0 => if_neg h0.ne', fun h0 => if_pos h0⟩
  · exact disableDrain_draining (s := s.dropRequest rest)
  · exact disableDrain_other (s := s.dropRequest rest)
  · subst hf
    exact exec_linkTest (v := taken _) hr hq hc ((judgeLinkTest_some (link_some hl)).trans (if_pos ⟨h, hfl⟩))
  · subst hf
    refine exec_linkTest (v := refuse _ _) hr hq hc ((judgeLinkTest_some (link_some hl)).trans (if_neg fun ⟨ho, hfl⟩ => ?_))
    exact h.elim (fun hn => hn ho) (fun hn => Bool.false_ne_true (hfl.symm.trans hn))
  · obtain ⟨port, flow, port_ne, frame⟩ := disableNow_effect s l ht
    refine ⟨port.trans (left_eq _ _), by rw [frame]; rfl, fun h => ?_, fun h => ?_, fun h => ⟨?_, fun m hm => ?_⟩,
      fun h => ⟨?_, fun m hm => ?_⟩, by rw [frame]; exact ⟨rfl, rfl, rfl, rfl, rfl, rfl⟩⟩
    · rw [frame]; exact if_pos h
    · rw [frame]; exact if_neg (by simp [h])
    · rw [flow, if_pos h]
    · rw [port_ne m hm, if_pos h]; exact changeNotice_port_eq s m
    · rw [flow, if_neg h]
    · rw [port_ne m hm, if_neg h]

end Sys2Proof.Machine
end

section
/-! SUPPORT. WRITE of PORT_MAP (spec/02_fabric_links.md, R24; spec/09_management_requests.md, R173). -/

namespace Sys2Proof.Machine

variable {s : State} {f : Fields}

/-! ### The entries parsed together (R169, R173) -/

theorem allSome_eq_none_iff {α : Type} {xs : List (Option α)} : allSome xs = none ↔ none ∈ xs := by
  induction xs with
  | nil => simp [allSome]
  | cons x rest ih =>
    cases x with
    | none => simp [allSome]
    | some a => cases h : allSome rest <;> simp [allSome, h, ← ih]

theorem allSome_map_some {α : Type} (xs : List α) : allSome (xs.map some) = some xs := by
  induction xs with
  | nil => rfl
  | cons x rest ih => simp [allSome, ih]

section
variable {α : Type} {o : Object} {parse : List Byte → Option α}

theorem parsed_eq_none (h : ∃ k, k < f.count.toNat ∧ parse (f.entry o k) = none) : f.parsed o parse = none := by
  obtain ⟨k, hk, hp⟩ := h
  exact allSome_eq_none_iff.2 (List.mem_map.2 ⟨k, List.mem_range.2 hk, hp⟩)

theorem parsed_eq_some {entry : Nat → α} (h : ∀ k, k < f.count.toNat → parse (f.entry o k) = some (entry k)) :
    f.parsed o parse = some ((List.range f.count.toNat).map entry) := by
  rw [← allSome_map_some, List.map_map]
  exact congrArg allSome (List.map_congr_left fun k hk => h k (List.mem_range.1 hk))

end

/-! ### The entries stored (R24, R130) -/

theorem storePortMap_frame (s : State) (i : Nat) (es : List PortMapEntry) :
    s.storePortMap i es = { s with ports := (s.storePortMap i es).ports } := by
  induction es generalizing s i with
  | nil => rfl
  | cons e rest ih =>
    unfold State.storePortMap
    split
    · rw [ih]; rfl
    · rfl

/-- Every covered link has its entry and no credit; every other link is as it was. -/
theorem storePortMap_port (s : State) {i : Nat} (entry : Nat → PortMapEntry) {n : Nat} (h : i + n ≤ 64) (l : LinkId) :
    (s.storePortMap i ((List.range n).map entry)).port l =
      if i ≤ l.val ∧ l.val < i + n then { s.port l with map := entry (l.val - i), credit := LinkCredit.zero }
      else s.port l := by
  induction n generalizing s i entry with
  | zero => rw [if_neg (by omega)]; rfl
  | succ n ih =>
    have hi : i < 64 := by omega
    rw [List.range_succ_eq_map, List.map_cons, List.map_map, State.storePortMap, dif_pos hi, ih _ _ (by omega)]
    by_cases hl : l.val = i
    · rw [if_neg (by omega), if_pos (by omega), show (⟨i, hi⟩ : LinkId) = l from Fin.ext hl.symm, port_modPort_self, hl,
        Nat.sub_self]
    · rw [port_modPort_ne fun e => hl (congrArg Fin.val e)]
      by_cases hin : i + 1 ≤ l.val ∧ l.val < i + 1 + n
      · rw [if_pos hin, if_pos (by omega), Function.comp_apply, show Nat.succ (l.val - (i + 1)) = l.val - i by omega]
      · rw [if_neg hin, if_neg (by omega)]

/-- The links as the statement of the write gives them are the links as they are stored. -/
theorem storePortMap_eq {i n : Nat} {entry : Nat → PortMapEntry} (h : i + n ≤ 64) {ports : Vector Port 64}
    (hp : ∀ l : LinkId, ports[l] =
      if i ≤ l.val ∧ l.val < i + n then { s.port l with map := entry (l.val - i), credit := LinkCredit.zero }
      else s.port l) :
    s.storePortMap i ((List.range n).map entry) = { s with ports := ports } := by
  have same : (s.storePortMap i ((List.range n).map entry)).ports = ports :=
    Vector.ext fun k hk => (storePortMap_port s entry h ⟨k, hk⟩).trans (hp ⟨k, hk⟩).symm
  rw [storePortMap_frame, same]

/-! ### A Port Map entry (R24, R173) -/

theorem clampByte_toNat {lo hi : Nat} (b : Byte) (hlo : lo < 256) (hhi : hi < 256) :
    (clampByte lo hi b).toNat = max lo (min hi b.toNat) := natByte_toNat (by unfold clamp; omega)

theorem expectPossible_iff {b : Byte} : expectPossible b = true ↔ b.toNat < 64 ∨ b = 255 := by
  simp [expectPossible]

section
variable {b : List Byte}

theorem parsePortMap_eq_none_iff :
    parsePortMap b = none ↔
      (64 ≤ (byteAt b 0).toNat ∧ byteAt b 0 ≠ 255) ∨ (64 ≤ (byteAt b 1).toNat ∧ byteAt b 1 ≠ 255) ∨
        2 ≤ (byteAt b 2).toNat ∨ 2 ≤ (byteAt b 3).toNat ∨ 3 ≤ (byteAt b 4).toNat := by
  rw [parsePortMap, ite_eq_right_iff]
  simp only [reduceCtorEq, imp_false, not_and_or, expectPossible_iff, not_or, Nat.not_lt, Nat.not_le]
  rfl

/-- The fields of an entry that is possible, numeric fields clamped. -/
theorem of_parsePortMap_eq_some {e : PortMapEntry} (h : parsePortMap b = some e) :
    e.expectId = byteAt b 0 ∧ e.expectLink = byteAt b 1 ∧ (e.mgmtAllowed = true ↔ byteAt b 2 = 1) ∧
      (e.recovery = .auto ↔ byteAt b 3 = 1) ∧ (e.squelch = .marker ↔ byteAt b 4 = 1) ∧ (e.squelch = .silent ↔ byteAt b 4 = 2) ∧
      e.holdDown.toNat = max 1 (byteAt b 5).toNat ∧ e.flapLimit.toNat = min 15 (byteAt b 6).toNat ∧
      e.errorLimit = byteAt b 7 ∧ e.creditMax.toNat = max 1 (min 128 (byteAt b 8).toNat) ∧
      e.drainLimit.toNat = max 1 (byteAt b 9).toNat := by
  unfold parsePortMap at h
  split at h <;> rename_i hp
  · obtain ⟨-, -, -, -, h4⟩ := hp
    obtain rfl := Option.some.inj h
    refine ⟨rfl, rfl, beq_iff_eq, ?_, ?_, ?_, ?_, ?_, rfl, ?_, ?_⟩
    · dsimp only
      split_ifs with h3
      · exact iff_of_true rfl h3
      · exact iff_of_false not_false h3
    · dsimp only
      split_ifs with h0 h1
      · exact iff_of_false not_false (by rw [h0]; decide)
      · exact iff_of_true rfl h1
      · exact iff_of_false not_false h1
    · dsimp only
      split_ifs with h0 h1
      · exact iff_of_false not_false (by rw [h0]; decide)
      · exact iff_of_false not_false (by rw [h1]; decide)
      · exact iff_of_true rfl (by bv_omega)
    · rw [clampByte_toNat _ (by decide) (by decide)]; have := (byteAt b 5).isLt; omega
    · rw [clampByte_toNat _ (by decide) (by decide)]; omega
    · rw [clampByte_toNat _ (by decide) (by decide)]
    · rw [clampByte_toNat _ (by decide) (by decide)]; have := (byteAt b 9).isLt; omega
  · exact absurd h.symm (Option.some_ne_none e)

end

/-! ### The row -/

theorem kind_writePortMap (hc : f.command = 0x02) (ho : f.object = 0x02) : f.kind = .writePortMap := by
  rw [Fields.kind, hc, ho]; rfl

theorem judgeWritePortMap_refused {status : Status} (h : f.shapeRefusal .portMap = some status) :
    judgeWritePortMap f s = refuse s status := by
  simp only [judgeWritePortMap, h]

theorem mem_coveredLinks {l : LinkId} :
    l ∈ f.coveredLinks ↔ f.index.toNat ≤ l.val ∧ l.val < f.index.toNat + f.count.toNat := by
  simp [Fields.coveredLinks, allLinks]

section
variable (hs : f.shapeRefusal .portMap = none)
include hs

theorem judgeWritePortMap_busy {l : LinkId} (hl : l ∈ f.coveredLinks) (h : (s.port l).unit.state ≠ .off) :
    judgeWritePortMap f s = refuse s .busy := by
  have busy : (f.coveredLinks.all fun l => (s.port l).unit.state == .off) = false :=
    List.all_eq_false.2 ⟨l, hl, by simpa using h⟩
  simp only [judgeWritePortMap, hs, busy, Bool.not_false, if_true]

theorem judgeWritePortMap_off (h : ∀ l ∈ f.coveredLinks, (s.port l).unit.state = .off) :
    judgeWritePortMap f s = (f.parsed .portMap parsePortMap).elim (refuse s .badValue)
      fun entries => taken (s.storePortMap f.index.toNat entries) := by
  have off : (f.coveredLinks.all fun l => (s.port l).unit.state == .off) = true :=
    List.all_eq_true.2 fun l hl => by simpa using h l hl
  simp only [judgeWritePortMap, hs, off, Bool.not_true, Bool.false_eq_true, if_false]
  cases f.parsed .portMap parsePortMap <;> rfl

end

/-- Settles O43: the shape, BUSY, the entries parsed together, and the entries stored. -/
theorem portMapWrites : Obligations.PortMapWrites := by
  refine ⟨rfl, fun s u r rest f hr hq hf hu hc ho => ?_⟩
  subst hf hu
  have served : ∀ v, judgeWritePortMap r.fields (s.dropRequest rest) = v →
      exec .writePortMap s = .next (v.state.respond r v.status v.data) := fun v hv =>
    (act_run _ hr : execWritePortMap s = _).trans (congrArg _ (serve_head_eq hq (kind_writePortMap hc ho) hv))
  refine ⟨fun status h => served (refuse _ _) (judgeWritePortMap_refused h),
    fun hs => ⟨fun l hlo hhi hl => ?_, fun hoff => ?_⟩, fun b => ⟨parsePortMap_eq_none_iff, fun e => of_parsePortMap_eq_some⟩⟩
  · exact served (refuse _ _) (judgeWritePortMap_busy hs (mem_coveredLinks.2 ⟨hlo, hhi⟩) hl)
  · have judged := judgeWritePortMap_off (s := s.dropRequest rest) hs fun l hl =>
      hoff l (mem_coveredLinks.1 hl).1 (mem_coveredLinks.1 hl).2
    obtain ⟨-, -, hrange⟩ := of_shapeRefusal_none hs
    refine ⟨fun hk => ?_, fun entry he ports hp => ?_⟩
    · rw [parsed_eq_none hk] at judged
      exact served (refuse _ _) judged
    · rw [parsed_eq_some he, Option.elim_some, storePortMap_eq (s := s.dropRequest rest) hrange hp] at judged
      exact served (taken _) judged

end Sys2Proof.Machine
end

section
/-! SUPPORT. The two resets (spec/09_management_requests.md, R179, R180; spec/11_start_up_and_boot_image.md, R191, R192). -/

namespace Sys2Proof.Machine

variable {s : State} {l : LinkId}

/-! ### The reset event (R191, R192) -/

/-- Settles O5: a link by `elementReset_port`, every other block by the two samples of BOOT_SEL. -/
theorem elementResetValues : Obligations.ElementResetValues := by
  intro bootSel id s
  have emptyLists : ∀ c : ClassId, LinkQueues.reset.lists[c] = [] ∧ LinkQueues.reset.xoff[c] = false := by decide
  have unmarked : ∀ d : Dcn, RouteStore.reset.destBad[d] = false := fun d => Vector.getElem_replicate ..
  have unmarkedGroups : ∀ g : GroupId, RouteStore.reset.groupBad[g] = false := fun g => Vector.getElem_replicate ..
  refine ⟨s.elementReset bootSel id, rfl, ?_, fun l => ?_, ?_⟩
  · cases bootSel <;> rfl
  · rw [elementReset_port]
    cases bootSel <;> exact ⟨rfl, rfl, rfl, rfl, rfl, rfl, rfl, rfl, rfl, rfl, rfl, rfl, rfl, rfl, rfl, rfl, rfl, rfl, emptyLists,
      rfl, rfl, rfl, rfl, rfl, rfl, rfl, rfl, rfl, rfl⟩
  · cases bootSel <;> exact ⟨rfl, rfl, rfl, rfl, rfl, rfl, rfl, rfl, rfl, rfl, rfl, rfl, rfl, rfl, rfl, rfl, rfl, rfl, rfl, rfl,
      rfl, unmarked, unmarkedGroups, rfl, rfl, rfl, rfl, rfl, rfl, rfl, rfl, rfl, rfl, rfl, rfl, rfl, rfl, rfl, rfl, rfl, rfl⟩

/-! ### SOFT_RESET (R48, R115, R148, R179) -/

theorem kind_softReset {f : Fields} (h : f.command = 0x41) : f.kind = .softReset := by rw [Fields.kind, h]; rfl

theorem exec_softReset {r : Request} {rest : List Request} (hr : s.inReset = false) (hq : s.agent.requests = r :: rest)
    (hc : r.fields.command = 0x41) : exec .softReset s = .next s.softReset := by
  refine (act_run _ hr : execSoftReset s = _).trans (congrArg _ ?_)
  simp only [State.serveSoftReset, hq, kind_softReset hc, if_true]

theorem softReset_port (s : State) (l : LinkId) :
    s.softReset.port l = (s.port l).softReset s.blankDuration (s.param (.weight .one)) :=
  port_mapPorts s _ l

section
variable {p : Port} {d w : Nat}

theorem softLink_off (h : p.unit.state = .off) : p.softLink d = p := by simp only [Port.softLink, h]

theorem softLink_test (h : p.unit.state = .test) :
    p.softLink d = { p with unit := { p.unit with state := .off, checker := .unseeded } } := by
  simp only [Port.softLink, h]

theorem softLink_other (ho : p.unit.state ≠ .off) (ht : p.unit.state ≠ .test) : p.softLink d = p.toBlank d := by
  unfold Port.softLink
  split <;> rename_i hs
  · exact absurd hs ho
  · exact absurd hs ht
  all_goals rfl

/-- Soft reset moves the link unit, and only it, by the state of the link. -/
theorem softReset_eq (p : Port) (d w : Nat) : p.softReset d w = { p with
    unit := { (p.softLink d).unit with
      lossTimer := none, holdDown := none, qualified := false, upRising := false, flapDue := false, flapCount := 0,
      lastFault := none }
    queues := LinkQueues.reset
    credit := LinkCredit.zero
    sched := { position := .one, grant := w, control := [] }
    flowDue := false
    flags := 0
    counters := Vector.replicate 15 0
    testErrors := 0 } := by
  unfold Port.softReset Port.softLink
  split <;> rfl

end

theorem commit_softReset_record (u : CommitUnit) (e : Half) :
    (u.softReset e).record =
      (match u.state with
        | .idle => u.record
        | .checking q _ _ | .armed q => some { request := q, outcome := .cancelled, epoch := e }) := by
  unfold CommitUnit.softReset
  cases u.state <;> rfl

theorem commit_softReset_state (u : CommitUnit) (e : Half) : (u.softReset e).state = .idle := by
  unfold CommitUnit.softReset
  split <;> rename_i h
  · cases hs : u.state <;> simp_all [CommitState.inProgress]
  · rfl

theorem commit_softReset_frame (u : CommitUnit) (e : Half) :
    (u.softReset e).scrub = u.scrub ∧ (u.softReset e).boundaries = u.boundaries := by
  unfold CommitUnit.softReset
  split <;> exact ⟨rfl, rfl⟩

/-- R182: of the flags that a reset leaves, RESET_SEEN alone stands. -/
theorem getLsbD_one_bit (f : ElementFlag) : (1 : BitVec 16).getLsbD f.bit = decide (f = .resetSeen) := by
  cases f <;> decide

/-- Settles O6: a link by `softReset_eq` and the cases of `Port.softLink`, the commit unit by whether a commit is in progress. -/
theorem softResetValues : Obligations.SoftResetValues := by
  intro s r rest hr hq hc
  have emptyLink : ∀ c : ClassId, LinkQueues.reset.lists[c] = [] ∧ LinkQueues.reset.xoff[c] = false ∧
      LinkCredit.zero.granted[c] = 0 ∧ LinkCredit.zero.sent[c] = 0 := by decide
  refine ⟨s.softReset, exec_softReset hr hq hc, fun l u hu => ?_, commit_softReset_state .., (commit_softReset_frame ..).1,
    commit_softReset_record .., rfl, rfl, rfl, rfl, rfl, (commit_softReset_frame ..).2, fun f => ?_, fun i => ?_, rfl, rfl⟩
  · rw [softReset_port, softReset_eq, hu]
    refine ⟨fun h => ?_, fun h => ?_, fun ho ht => ?_, rfl, rfl, rfl, rfl, rfl, rfl, fun i => Vector.getElem_replicate .., rfl,
      emptyLink, rfl, rfl⟩
    · rw [softLink_off h]
    · rw [softLink_test h]
    · rw [softLink_other ho ht]; rfl
  · exact getLsbD_one_bit f
  · exact Vector.getElem_replicate ..

end Sys2Proof.Machine
end

section
/-! SUPPORT. What the invariants of the service, the configuration and the links read of the element (Sys2Proof/Safety.lean): of a
link its unit, its Port Map entry, its queues and its scheduler; of the rest the loader and the agent. The operations that move none
of it. -/

namespace Sys2Proof.Machine

/-- Two links agree in all that the invariants read of a link. -/
structure Port.Alike (p q : Port) : Prop where
  unit : q.unit = p.unit
  map : q.map = p.map
  queues : q.queues = p.queues
  sched : q.sched = p.sched

theorem Port.Alike.refl (p : Port) : p.Alike p := ⟨rfl, rfl, rfl, rfl⟩

theorem Port.Alike.trans {p q r : Port} (h : p.Alike q) (k : q.Alike r) : p.Alike r :=
  ⟨k.unit.trans h.unit, k.map.trans h.map, k.queues.trans h.queues, k.sched.trans h.sched⟩

/-- From `s` to `t` nothing moves that the invariants read. -/
structure Quiet (s t : State) : Prop where
  boot : t.boot = s.boot
  agent : t.agent = s.agent
  port : ∀ m, (s.port m).Alike (t.port m)

variable {s t u : State} {l : LinkId}

theorem Quiet.trans (h : Quiet s t) (k : Quiet t u) : Quiet s u :=
  ⟨k.boot.trans h.boot, k.agent.trans h.agent, fun m => (h.port m).trans (k.port m)⟩

theorem Quiet.refl (s : State) : Quiet s s := ⟨rfl, rfl, fun _ => .refl _⟩

theorem Quiet.after (k : Quiet t u) (h : Quiet s t) : Quiet s u := h.trans k

theorem Quiet.of_ports (hb : t.boot = s.boot) (ha : t.agent = s.agent) (hp : t.ports = s.ports) : Quiet s t :=
  ⟨hb, ha, fun m => by
    rw [show t.port m = s.port m from congrArg (·[m]) hp]
    exact .refl _⟩

theorem Quiet.unit (h : Quiet s t) (m : LinkId) : (t.port m).unit = (s.port m).unit := (h.port m).unit

theorem Quiet.foldl {α : Type} {f : State → α → State} (h : ∀ t a, Quiet t (f t a)) (as : List α) (s : State) :
    Quiet s (as.foldl f s) := by
  induction as generalizing s with
  | nil => exact .refl s
  | cons a rest ih => exact (h s a).trans (ih _)

/-! ### One link changed beside what the invariants read -/

theorem Quiet.modPort {f : Port → Port} (h : (s.port l).Alike (f (s.port l))) : Quiet s (s.modPort l f) := by
  refine ⟨rfl, rfl, fun m => ?_⟩
  rw [port_modPort]
  split <;> rename_i hm
  · rw [hm]; exact h
  · exact .refl _

/-- A change of one link is not disturbed by what moves nothing of the link that it reads. -/
theorem Quiet.modPort_congr {f g : Port → Port} (h : Quiet s t) (hf : (f (s.port l)).Alike (g (t.port l))) :
    Quiet (s.modPort l f) (t.modPort l g) := by
  refine ⟨h.boot, h.agent, fun m => ?_⟩
  rw [port_modPort, port_modPort]
  split
  · exact hf
  · exact h.port m

theorem quiet_countLink (s : State) (l : LinkId) (k : LinkCounter) : Quiet s (s.countLink l k) := .modPort ⟨rfl, rfl, rfl, rfl⟩

theorem quiet_hand (s : State) (l : LinkId) (x : Option Cell) : Quiet s (s.hand l x) := .modPort ⟨rfl, rfl, rfl, rfl⟩

theorem quiet_latchLink (s : State) (l : LinkId) (f : LinkFlag) : Quiet s (s.latchLink l f) := by
  refine ⟨by rw [latchLink_frame], by rw [latchLink_frame], fun m => ?_⟩
  by_cases h : m = l
  · rw [h, latchLink_port_self]; exact ⟨rfl, rfl, rfl, rfl⟩
  · rw [latchLink_port_ne s h]; exact .refl _

/-! ### Change notices and congestion (R108, R120, R121, R123) -/

theorem alike_markFlowDue (p : Port) : p.Alike p.markFlowDue := by
  rw [markFlowDue_eq]; exact ⟨rfl, rfl, rfl, rfl⟩

theorem quiet_markFlowDue (s : State) : Quiet s s.markFlowDue :=
  ⟨rfl, rfl, fun m => by rw [markFlowDue_port]; exact alike_markFlowDue _⟩

theorem quiet_changeNotice (s : State) : Quiet s s.changeNotice := by
  unfold State.changeNotice
  split
  · exact (quiet_markFlowDue s).trans (.of_ports rfl rfl rfl)
  · exact .of_ports rfl rfl rfl

theorem quiet_gapExpiry (s : State) : Quiet s s.gapExpiry := by
  unfold State.gapExpiry
  split
  · exact .refl s
  · split
    · exact ((quiet_markFlowDue _).after (.of_ports rfl rfl rfl)).trans (.of_ports rfl rfl rfl)
    · exact .of_ports rfl rfl rfl

theorem quiet_refreshFlow (s : State) : Quiet s s.refreshFlow := by
  unfold State.refreshFlow
  split
  · exact .refl s
  · exact (quiet_markFlowDue _).after (.of_ports rfl rfl rfl)

theorem quiet_latch (s : State) (f : ElementFlag) : Quiet s (s.latch f) := .of_ports rfl rfl rfl

theorem quiet_setCongested (s : State) (b : Bool) : Quiet s (s.setCongested b) := by
  unfold State.setCongested
  have told : Quiet s ({ s with buffer := { s.buffer with congested := b } } : State).changeNotice :=
    (quiet_changeNotice _).after (.of_ports rfl rfl rfl)
  split
  · exact .refl s
  · dsimp only
    split
    · exact told.trans (quiet_latch _ _)
    · exact told

theorem quiet_evalCongestion (s : State) : Quiet s s.evalCongestion := by
  unfold State.evalCongestion
  split
  · exact quiet_setCongested s true
  · split
    · exact quiet_setCongested s false
    · exact .refl s

theorem quiet_latchExhaustion (s : State) : Quiet s s.latchExhaustion := by
  rw [latchExhaustion_frame]; exact .of_ports rfl rfl rfl

/-! ### Counting (R100, R189) -/

theorem quiet_countElement (s : State) (k : ElementCounter) : Quiet s (s.countElement k) := .of_ports rfl rfl rfl

theorem quiet_countDrops (s : State) (refused : List (Target × Refused)) : Quiet s (s.countDrops refused) :=
  .foldl (f := fun t (r : Target × Refused) => t.countLink r.1 .mcastCopyDrop) (fun _ _ => quiet_countLink ..) refused s

theorem quiet_countWholeLoss (s : State) (arrival : LinkId) (refused : List (Target × Refused)) :
    Quiet s (s.countWholeLoss arrival refused) := by
  unfold State.countWholeLoss
  split
  · exact quiet_countLink ..
  · exact .refl s

/-! ### Routes, commits and epochs -/

theorem quiet_markDest (s : State) (d : Dcn) : Quiet s (s.markDest d) := .of_ports rfl rfl rfl

theorem quiet_markGroup (s : State) (g : GroupId) : Quiet s (s.markGroup g) := .of_ports rfl rfl rfl

theorem quiet_modRoutes (s : State) (f : RouteStore → RouteStore) : Quiet s (s.modRoutes f) := .of_ports rfl rfl rfl

theorem quiet_modCommit (s : State) (f : CommitUnit → CommitUnit) : Quiet s (s.modCommit f) := .of_ports rfl rfl rfl

theorem quiet_modEpoch (s : State) (f : EpochUnit → EpochUnit) : Quiet s (s.modEpoch f) := .of_ports rfl rfl rfl

theorem quiet_advancePointer (s : State) (d : Dcn) : Quiet s (s.advancePointer d) := by
  unfold State.advancePointer
  split
  · exact .refl s
  · exact quiet_modRoutes ..

theorem quiet_endCommit (s : State) (r : CommitRequest) (o : CommitOutcome) (e : Half) : Quiet s (s.endCommit r o e) := by
  rw [endCommit_frame]; exact .of_ports rfl rfl rfl

theorem quiet_fire (s : State) (r : CommitRequest) (e : Half) : Quiet s (s.fire r e) :=
  (quiet_modRoutes ..).trans ((quiet_endCommit ..).trans (quiet_changeNotice _))

theorem quiet_walkOne (s : State) : Quiet s s.walkOne := by
  unfold State.walkOne
  split
  · split
    · exact quiet_modCommit ..
    · exact .refl s
  all_goals exact .refl s

theorem quiet_completeWalk (s : State) : Quiet s s.completeWalk := by
  unfold State.completeWalk
  split
  · exact quiet_endCommit ..
  · split_ifs
    · exact .refl s
    · exact quiet_fire ..
    · exact quiet_modCommit ..
  all_goals exact .refl s

theorem quiet_commitAtBoundary (s : State) (b : Boundary) : Quiet s (s.commitAtBoundary b) := by
  cases h : s.commit.state with
  | idle => rw [commitAtBoundary_idle h]; exact .refl s
  | checking q n f =>
    rw [commitAtBoundary_checking h]
    split
    · exact .refl s
    · exact quiet_endCommit ..
  | armed q =>
    rw [commitAtBoundary_armed h]
    split_ifs
    · exact quiet_endCommit ..
    · exact quiet_fire ..
    · exact .refl s
    · exact quiet_endCommit ..

theorem quiet_scrubOne (s : State) : Quiet s s.scrubOne := by
  rw [scrubOne_frame]; exact .of_ports rfl rfl rfl

theorem quiet_scrubVisits (n : Nat) (s : State) : Quiet s (State.scrubVisits n s) := by
  induction n generalizing s with
  | zero => exact .refl s
  | succ n ih => exact (quiet_scrubOne s).trans (ih _)

theorem quiet_commitBoundary (s : State) : Quiet s s.commitBoundary := by
  unfold State.commitBoundary
  split
  · exact .refl s
  · exact (quiet_modCommit ..).trans ((quiet_commitAtBoundary ..).trans (quiet_scrubVisits ..))

theorem quiet_boundary (s : State) (carried : Option Half) (sync : SyncState) (missRun : Nat) (lost : Bool) :
    Quiet s (s.boundary carried sync missRun lost) := by
  have port : ∀ m, (s.boundary carried sync missRun lost).port m = { s.port m with boundaries := (s.port m).boundaries + 1 } :=
    fun m => by
      rw [boundary_frame]
      exact port_mapPorts s (fun p => { p with boundaries := p.boundaries + 1 }) m
  exact ⟨by rw [boundary_frame], by rw [boundary_frame], fun m => by rw [port]; exact ⟨rfl, rfl, rfl, rfl⟩⟩

theorem quiet_externalEpoch (s : State) (carried : Option Half) (elapsed : Nat) : Quiet s (s.externalEpoch carried elapsed) := by
  have window : Quiet s (s.modEpoch fun e => { e with window := e.reading elapsed }) := quiet_modEpoch ..
  have judged : Quiet s (let t := s.modEpoch fun e => { e with window := e.reading elapsed }
      if t.epoch.window < t.epoch.period - t.epoch.tol then (t.countElement .epochEarlyCount).latch .epochEarly
      else t.boundary carried .locked 0 false) := by
    dsimp only
    split
    · exact window.trans ((quiet_countElement ..).trans (quiet_latch ..))
    · exact window.trans (quiet_boundary ..)
  unfold State.externalEpoch
  split
  · exact .refl s
  · exact quiet_boundary ..
  · exact quiet_boundary ..
  · exact judged
  · exact judged

theorem quiet_timerBoundary (s : State) : Quiet s s.timerBoundary := by
  unfold State.timerBoundary
  split
  · exact quiet_boundary ..
  · exact quiet_boundary ..
  · exact quiet_boundary ..
  all_goals exact .refl s

theorem quiet_holdoverBoundary (s : State) : Quiet s s.holdoverBoundary := by
  have missed : Quiet s ((s.countElement .epochMissedCount).latch .epochMissed) :=
    (quiet_countElement ..).trans (quiet_latch ..)
  unfold State.holdoverBoundary
  split
  · dsimp only
    split
    · exact missed.trans ((quiet_latch ..).trans (quiet_boundary ..))
    · exact missed.trans (quiet_boundary ..)
  · dsimp only
    split
    · exact missed.trans ((quiet_latch ..).trans (quiet_boundary ..))
    · exact missed.trans (quiet_boundary ..)
  all_goals exact .refl s

theorem quiet_pinRises (s : State) (elapsed : Nat) : Quiet s (s.pinRises elapsed) := by
  cases h : s.epoch.pinHigh with
  | true => rw [pinRises_high h]; exact .refl s
  | false =>
    rw [pinRises_low h]
    split
    · exact (quiet_modEpoch ..).trans ((quiet_externalEpoch ..).trans (quiet_modEpoch ..))
    · exact quiet_modEpoch ..

theorem quiet_stuckExpiry (s : State) : Quiet s s.stuckExpiry := by
  unfold State.stuckExpiry
  split
  · exact (quiet_modEpoch ..).trans (quiet_latch ..)
  all_goals exact .refl s

end Sys2Proof.Machine
end

section
/-! SUPPORT. The output queues as changes of one link (spec/05_cell_buffer_and_output_queues.md, R97, R99, R103, R106, R107): what an
append, a removal and an evaluation of the XOFF flags make of a link; beside it they move nothing that the invariants read. -/

namespace Sys2Proof.Machine

variable {s t u : State} {l : LinkId} {k : Params} {c d : ClassId} {p q : Port}

/-! ### XOFF flags of one link (R106, R107) -/

/-- The XOFF flag of one class set to a value. -/
def Port.setXoff (c : ClassId) (b : Bool) (p : Port) : Port :=
  { p with queues := { p.queues with xoff := p.queues.xoff.set c b } }

/-- The XOFF flag of one class evaluated anew (R107). -/
def Port.reevaluate (k : Params) (p : Port) (c : ClassId) : Port :=
  if paramValue k (.xoffHi c) ≤ p.queues.lists[c].length then p.setXoff c true
  else if p.queues.lists[c].length ≤ paramValue k (.xoffLo c) then p.setXoff c false
  else p

/-- One queue replaced. -/
def Port.setList (c : ClassId) (slots : List Nat) (p : Port) : Port :=
  { p with queues := { p.queues with lists := p.queues.lists.set c slots } }

/-- The evaluation after an append (R106). -/
def Port.raiseXoff (k : Params) (c : ClassId) (p : Port) : Port :=
  if paramValue k (.xoffHi c) ≤ p.queues.lists[c].length then p.setXoff c true else p

/-- The evaluation after a removal (R106). -/
def Port.lowerXoff (k : Params) (c : ClassId) (p : Port) : Port :=
  if p.queues.lists[c].length ≤ paramValue k (.xoffLo c) then p.setXoff c false else p

/-- A descriptor at the tail of a queue, and the evaluation that follows it. -/
def Port.append (k : Params) (c : ClassId) (slot : Nat) (p : Port) : Port :=
  (p.setList c (p.queues.lists[c] ++ [slot])).raiseXoff k c

/-- A queue without its head, and the evaluation that follows the removal. -/
def Port.removeHead (k : Params) (c : ClassId) (rest : List Nat) (p : Port) : Port := (p.setList c rest).lowerXoff k c

theorem setXoff_of_eq {b : Bool} (h : p.queues.xoff[c] = b) : p.setXoff c b = p := by
  unfold Port.setXoff
  subst h
  simp

theorem reevaluate_high (h : paramValue k (.xoffHi c) ≤ p.queues.lists[c].length) : p.reevaluate k c = p.setXoff c true :=
  if_pos h

theorem reevaluate_low (h : ¬paramValue k (.xoffHi c) ≤ p.queues.lists[c].length)
    (hl : p.queues.lists[c].length ≤ paramValue k (.xoffLo c)) : p.reevaluate k c = p.setXoff c false :=
  (if_neg h).trans (if_pos hl)

theorem reevaluate_between (h : ¬paramValue k (.xoffHi c) ≤ p.queues.lists[c].length)
    (hl : ¬p.queues.lists[c].length ≤ paramValue k (.xoffLo c)) : p.reevaluate k c = p :=
  (if_neg h).trans (if_neg hl)

theorem Port.Alike.setXoff (h : p.Alike q) (c : ClassId) (b : Bool) : (p.setXoff c b).Alike (q.setXoff c b) :=
  ⟨h.unit, h.map, by rw [Port.setXoff, h.queues]; rfl, h.sched⟩

theorem Port.Alike.reevaluate (h : p.Alike q) (k : Params) (c : ClassId) : (p.reevaluate k c).Alike (q.reevaluate k c) := by
  unfold Port.reevaluate
  rw [h.queues]
  split_ifs
  · exact h.setXoff c true
  · exact h.setXoff c false
  · exact h

theorem quiet_setXoff (s : State) (l : LinkId) (c : ClassId) (b : Bool) :
    Quiet (s.modPort l (Port.setXoff c b)) (s.setXoff l c b) := by
  unfold State.setXoff
  split <;> rename_i h
  · rw [modPort_of_fixed (setXoff_of_eq h)]; exact .refl s
  · exact quiet_changeNotice _

theorem Quiet.modPort_of_eq {f g : Port → Port} (h : f (s.port l) = g (s.port l)) (hq : Quiet (s.modPort l g) t) :
    Quiet (s.modPort l f) t := Machine.modPort_congr h ▸ hq

theorem Quiet.modPort_of_fixed {f : Port → Port} (h : f (s.port l) = s.port l) (hq : Quiet s t) : Quiet (s.modPort l f) t :=
  (Machine.modPort_of_fixed h).symm ▸ hq

theorem quiet_xoffReevaluate (s : State) (l : LinkId) (c : ClassId) :
    Quiet (s.modPort l fun p => p.reevaluate s.agent.params c) (s.xoffReevaluate l c) := by
  unfold State.xoffReevaluate
  split <;> rename_i hi
  · exact .modPort_of_eq (reevaluate_high hi) (quiet_setXoff s l c true)
  · split <;> rename_i lo
    · exact .modPort_of_eq (reevaluate_low hi lo) (quiet_setXoff s l c false)
    · exact .modPort_of_fixed (reevaluate_between hi lo) (.refl s)

/-! ### Every link evaluated anew (R107) -/

theorem foldl_xoffReevaluate_alike (c : ClassId) (ls : List LinkId) (hl : ls.Nodup) (s : State) (m : LinkId) :
    (if m ∈ ls then (s.port m).reevaluate s.agent.params c else s.port m).Alike
      ((ls.foldl (fun t l => t.xoffReevaluate l c) s).port m) := by
  induction ls generalizing s with
  | nil => exact .refl _
  | cons l rest ih =>
    obtain ⟨hn, hrest⟩ := List.nodup_cons.1 hl
    have step := quiet_xoffReevaluate s l c
    have stepped := step.port m
    have next := ih hrest (s.xoffReevaluate l c)
    rw [step.agent, modPort_agent] at next
    rw [port_modPort] at stepped
    refine .trans ?_ next
    by_cases hm : m = l
    · subst hm
      rw [if_pos List.mem_cons_self, if_neg hn]
      rwa [if_pos rfl] at stepped
    · rw [if_neg hm] at stepped
      by_cases hr : m ∈ rest
      · rw [if_pos (List.mem_cons_of_mem l hr), if_pos hr]
        exact stepped.reevaluate _ c
      · rw [if_neg (by simp [hm, hr]), if_neg hr]
        exact stepped

theorem quiet_xoffReevaluateClass (s : State) (c : ClassId) :
    Quiet (s.mapPorts fun p => p.reevaluate s.agent.params c) (s.xoffReevaluateClass c) := by
  have frame : ∀ (ls : List LinkId) (s : State), (ls.foldl (fun t l => t.xoffReevaluate l c) s).boot = s.boot ∧
      (ls.foldl (fun t l => t.xoffReevaluate l c) s).agent = s.agent := by
    intro ls
    induction ls with
    | nil => exact fun s => ⟨rfl, rfl⟩
    | cons l rest ih =>
      intro s
      obtain ⟨hb, ha⟩ := ih (s.xoffReevaluate l c)
      exact ⟨hb.trans (by rw [xoffReevaluate_frame]), ha.trans (by rw [xoffReevaluate_frame])⟩
  refine ⟨(frame _ s).1, (frame _ s).2, fun m => ?_⟩
  have := foldl_xoffReevaluate_alike c allLinks (List.nodup_finRange 64) s m
  rwa [if_pos (show m ∈ allLinks from List.mem_finRange m), ← port_mapPorts s (fun p => p.reevaluate s.agent.params c)] at this

theorem foldl_reevaluate_alike (h : p.Alike q) (k : Params) (cs : List ClassId) :
    (cs.foldl (Port.reevaluate k) p).Alike (cs.foldl (Port.reevaluate k) q) := by
  induction cs generalizing p q with
  | nil => exact h
  | cons c rest ih => exact ih (h.reevaluate k c)

/-- The classes evaluated one after another: each link by itself. -/
theorem quiet_foldl_xoffReevaluateClass (cs : List ClassId) (s : State) :
    Quiet (s.mapPorts fun p => cs.foldl (Port.reevaluate s.agent.params) p) (cs.foldl State.xoffReevaluateClass s) := by
  induction cs generalizing s with
  | nil => exact ⟨rfl, rfl, fun m => by rw [port_mapPorts]; exact .refl _⟩
  | cons c rest ih =>
    have step := quiet_xoffReevaluateClass s c
    have next := ih (s.xoffReevaluateClass c)
    rw [step.agent, mapPorts_agent] at next
    rw [List.foldl_cons]
    refine ⟨by rw [next.boot, mapPorts_boot, step.boot, mapPorts_boot, mapPorts_boot],
      by rw [next.agent, mapPorts_agent, step.agent, mapPorts_agent, mapPorts_agent], fun m => ?_⟩
    have stepped := step.port m
    have nexted := next.port m
    rw [port_mapPorts] at stepped nexted ⊢
    exact (foldl_reevaluate_alike stepped _ rest).trans nexted

/-! ### Appends and removals (R97, R99, R103) -/

/-- Two changes of one link are one, whatever else of the state has moved between them. -/
theorem Quiet.modPort_comp {f g : Port → Port} (hq : Quiet (u.modPort l g) t) (hb : u.boot = s.boot)
    (ha : u.agent = s.agent) (hp : u.ports = (s.modPort l f).ports) : Quiet (s.modPort l (g ∘ f)) t := by
  have self : u.port l = f (s.port l) := (congrArg (·[l]) hp : u.port l = (s.modPort l f).port l).trans (port_modPort_self ..)
  have moved : Quiet (s.modPort l f) u := .of_ports hb ha hp
  rw [← modPort_modPort]
  exact (moved.modPort_congr (by rw [port_modPort_self, self]; exact .refl _)).trans hq

theorem quiet_xoffAfterAppend (s : State) (l : LinkId) (c : ClassId) :
    Quiet (s.modPort l (Port.raiseXoff s.agent.params c)) (s.xoffAfterAppend l c) := by
  unfold State.xoffAfterAppend
  split <;> rename_i h
  · exact .modPort_of_eq (if_pos h) (quiet_setXoff s l c true)
  · exact .modPort_of_fixed (if_neg h) (.refl s)

theorem quiet_xoffAfterRemoval (s : State) (l : LinkId) (c : ClassId) :
    Quiet (s.modPort l (Port.lowerXoff s.agent.params c)) (s.xoffAfterRemoval l c) := by
  unfold State.xoffAfterRemoval
  split <;> rename_i h
  · exact .modPort_of_eq (if_pos h) (quiet_setXoff s l c false)
  · exact .modPort_of_fixed (if_neg h) (.refl s)

theorem quiet_append (s : State) (l : LinkId) (c : ClassId) (slot : Nat) :
    Quiet (s.modPort l (Port.append s.agent.params c slot)) (s.append l c slot) := by
  have evaluated := quiet_xoffAfterAppend
    { s.modPort l fun p => p.setList c (p.queues.lists[c] ++ [slot]) with
      buffer := { s.buffer with freeDesc := s.buffer.freeDesc - 1 } } l c
  exact evaluated.modPort_comp (s := s) (f := fun p => p.setList c (p.queues.lists[c] ++ [slot])) rfl rfl rfl

theorem quiet_removeHead (s : State) (l : LinkId) (c : ClassId) (slot : Nat) (rest : List Nat) :
    Quiet (s.modPort l (Port.removeHead s.agent.params c rest)) (s.removeHead l c slot rest) := by
  have evaluated := quiet_xoffAfterRemoval
    { s.modPort l (Port.setList c rest) with
      buffer := { s.buffer.release slot with freeDesc := (s.buffer.release slot).freeDesc + 1 } } l c
  have removed := evaluated.modPort_comp (s := s) (f := Port.setList c rest) rfl rfl rfl
  unfold State.removeHead
  dsimp only
  split
  · exact removed
  · exact removed.trans (quiet_evalCongestion _)

end Sys2Proof.Machine
end

section
/-! SUPPORT. What a change of one link must keep (Sys2Proof/Safety.lean), link units first: the events, timers and boundary work of
spec/02_fabric_links.md. -/

namespace Sys2Proof.Machine

variable {u v : LinkUnit}

/-! ### Link units that stay in service, or out of it -/

/-- From `u` to `v` a link unit keeps what the invariants say of it, and neither enters nor leaves service, nor leaves OFF. -/
structure LinkUnit.Kept (u v : LinkUnit) : Prop where
  off : u.state = .off → v.state = .off
  inService : v.state.inService = u.state.inService
  qualified : v.qualified = true → u.qualified = true ∧ (u.state = .qualify → v.state = .qualify)
  sound : u.Sound → v.Sound

theorem LinkUnit.Kept.refl (u : LinkUnit) : u.Kept u := ⟨id, rfl, fun h => ⟨h, id⟩, id⟩

theorem LinkUnit.Kept.trans {w : LinkUnit} (h : u.Kept v) (k : v.Kept w) : u.Kept w where
  off := k.off ∘ h.off
  inService := k.inService.trans h.inService
  qualified hw := ⟨(h.qualified (k.qualified hw).1).1, (k.qualified hw).2 ∘ (h.qualified (k.qualified hw).1).2⟩
  sound := k.sound ∘ h.sound

theorem kept_conditions (u : LinkUnit) (signal aligned : Bool) : u.Kept { u with signal := signal, aligned := aligned } :=
  ⟨id, rfl, fun h => ⟨h, id⟩, id⟩

theorem kept_generator (u : LinkUnit) (g : BitVec 31) : u.Kept { u with generator := g } := ⟨id, rfl, fun h => ⟨h, id⟩, id⟩

/-- R30, R33. -/
theorem kept_loseLock (u : LinkUnit) (d : Nat) : u.Kept (u.loseLock d) := by
  unfold LinkUnit.loseLock
  split <;> rename_i h
  · constructor <;> simp_all [LinkUnit.Sound, LinkState.inService]
  · split
    · exact .refl u
    · constructor <;> simp_all [LinkUnit.Sound, LinkState.inService]
  · split
    · exact .refl u
    · constructor <;> simp_all [LinkUnit.Sound, LinkState.inService]
  all_goals exact .refl u

/-- R27, R33. -/
theorem kept_comeIntoLock (u : LinkUnit) : u.Kept u.comeIntoLock := by
  unfold LinkUnit.comeIntoLock
  split <;> rename_i h
  · constructor <;> simp_all [LinkUnit.Sound, LinkState.inService]
  · constructor <;> simp_all [LinkUnit.Sound, LinkState.inService]
  · constructor <;> simp_all [LinkUnit.Sound, LinkState.inService]
  all_goals exact .refl u

theorem LinkUnit.Kept.regain (h : u.Kept v) : u.Kept (u.regain v) := by
  unfold LinkUnit.regain
  split
  · exact h.trans (kept_comeIntoLock v)
  · exact h

/-- R26. -/
theorem kept_blankExpiry (u : LinkUnit) : u.Kept u.blankExpiry := by
  unfold LinkUnit.blankExpiry
  split
  · split <;> constructor <;> simp_all [LinkUnit.Sound, LinkState.inService]
  · exact .refl u

/-- R34, R36, R39, R43. -/
theorem kept_boundaryWork (u : LinkUnit) (n : Nat) : u.Kept (u.boundaryWork n) := by
  unfold LinkUnit.boundaryWork
  split <;> rename_i h
  · split
    · constructor <;> simp_all [LinkUnit.Sound, LinkState.inService]
    · constructor <;> simp_all [LinkUnit.Sound, LinkState.inService]
  · constructor <;> simp_all [LinkUnit.Sound, LinkState.inService]
  · constructor <;> simp_all [LinkUnit.Sound, LinkState.inService]
  all_goals exact .refl u

/-- R36. -/
theorem kept_clearFlaps (u : LinkUnit) : u.Kept u.clearFlaps := by
  unfold LinkUnit.clearFlaps
  split
  · constructor <;> simp_all [LinkUnit.Sound, LinkState.inService]
  · exact .refl u

/-- R28, R29: a report in QUALIFY moves runs that no invariant reads. -/
theorem kept_moveMismatch_moveQual (u : LinkUnit) (r : Report) : u.Kept ((u.moveQual r).moveMismatch r) := by
  rw [moveMismatch_moveQual]
  exact ⟨id, rfl, fun h => ⟨h, id⟩, id⟩

/-- One microsecond (R26, R33). -/
theorem kept_tick (u : LinkUnit) :
    u.Kept { u with blankTimer := tickTimer u.blankTimer, lossTimer := tickTimer u.lossTimer } := by
  constructor <;> simp_all [LinkUnit.Sound, tickTimer]

/-- R43: the hold-down ends: the count stops and the flap count rises. -/
theorem kept_endHoldDown (u : LinkUnit) : u.Kept { u with holdDown := none, flapCount := min 255 (u.flapCount + 1) } := by
  constructor <;> simp_all [LinkUnit.Sound]

/-! ### Link units that change their service -/

theorem sound_disable (h : u.Sound) : u.disable.Sound := by
  unfold LinkUnit.Sound LinkUnit.disable at *
  simp_all [LinkState.inService]

/-- What entry to FAULT needs of a link unit: neither the blank timer nor the checker runs. -/
structure LinkUnit.Still (u : LinkUnit) : Prop where
  blankTimer : u.blankTimer = none
  checker : u.checker = .unseeded
  flapCount : u.flapCount ≤ 255
  upCount : u.upCount ≤ 65535

theorem LinkUnit.Sound.still (h : u.Sound) (hb : u.state ≠ .blank) (ht : u.state ≠ .test) : u.Still := by
  obtain ⟨blank, -, -, -, -, checker, -, flaps, ups⟩ := h
  exact ⟨by_contra fun hn => hb (blank.1 (Option.isSome_iff_ne_none.2 hn)), by_contra fun hn => ht (checker hn), flaps, ups⟩

theorem LinkUnit.Still.fail (h : u.Still) (cause : FaultCause) (e : Half) (r : Recovery) : (u.fail cause e r).Sound := by
  obtain ⟨blank, checker, flaps, ups⟩ := h
  simp [LinkUnit.Sound, LinkUnit.fail, LinkState.inService, blank, checker, flaps, ups]

/-- R32: the link unit as it enters UP. -/
def LinkUnit.up (u : LinkUnit) : LinkUnit :=
  { u with state := .up, errorCount := 0, markerRun := 0, upCount := 0, upRising := true, flapDue := false, qualified := false,
           lossTimer := none }

theorem LinkUnit.Sound.up (h : u.Sound) (hq : u.state = .qualify) : u.up.Sound := by
  unfold LinkUnit.Sound LinkUnit.up at *
  simp_all [LinkState.inService]

end Sys2Proof.Machine
end

section
/-! SUPPORT. What a change of one link must keep (Sys2Proof/Safety.lean), the link as a whole: its queues, its control queue, its flush
and its XOFF flags (spec/05_cell_buffer_and_output_queues.md, R97, R103, R106, R109, R111; spec/07_link_transmit_scheduling.md,
R138, R142). -/

namespace Sys2Proof.Machine

variable {s t : State} {l : LinkId} {k : Params} {c d : ClassId} {p q r : Port}

/-! ### The configuration of one link -/

/-- R106: the XOFF flag of one class agrees with the length of its queue. -/
def Port.XoffAgrees (k : Params) (p : Port) (c : ClassId) : Prop :=
  (paramValue k (.xoffHi c) ≤ p.queues.lists[c].length → p.queues.xoff[c] = true) ∧
    (p.queues.lists[c].length ≤ paramValue k (.xoffLo c) → p.queues.xoff[c] = false)

theorem ParamsSound.xoff (h : ParamsSound k) (c : ClassId) : paramValue k (.xoffLo c) < paramValue k (.xoffHi c) := h.2.1 c

/-- R24, R106, R142: what `State.ConfigSound` says of one link. -/
structure Port.ConfigSound (k : Params) (p : Port) : Prop where
  map : p.map.Sound
  xoff : ∀ c, p.XoffAgrees k c
  grant : 1 ≤ p.sched.grant ∧ p.sched.grant ≤ 15

theorem configSound_iff : s.ConfigSound ↔ ParamsSound s.agent.params ∧ ∀ l, (s.port l).ConfigSound s.agent.params :=
  ⟨fun ⟨hk, hm, hx, hg⟩ => ⟨hk, fun l => ⟨hm l, hx l, hg l⟩⟩,
    fun ⟨hk, h⟩ => ⟨hk, fun l => (h l).map, fun l c => (h l).xoff c, fun l => (h l).grant⟩⟩

theorem Port.ConfigSound.of_alike (h : p.Alike q) (hp : p.ConfigSound k) : q.ConfigSound k where
  map := h.map ▸ hp.map
  xoff c := by unfold Port.XoffAgrees; rw [h.queues]; exact hp.xoff c
  grant := by rw [h.sched]; exact hp.grant

theorem Port.ServiceSound.of_alike (h : p.Alike q) (hp : p.ServiceSound) : q.ServiceSound := by
  unfold Port.ServiceSound
  rw [h.unit, h.queues, h.sched]
  exact hp

/-! ### What a link keeps -/

/-- From `p` to `q` a link keeps what the invariants say of it, under the parameters `k`. -/
structure Port.Kept (k : Params) (p q : Port) : Prop where
  service : p.ServiceSound → q.ServiceSound
  unit : p.unit.Sound → q.unit.Sound
  config : ParamsSound k → p.ConfigSound k → q.ConfigSound k

theorem Port.Alike.kept (h : p.Alike q) : Port.Kept k p q :=
  ⟨.of_alike h, fun hu => h.unit ▸ hu, fun _ => .of_alike h⟩

theorem Port.Kept.trans (h : Port.Kept k p q) (h' : Port.Kept k q r) : Port.Kept k p r :=
  ⟨h'.service ∘ h.service, h'.unit ∘ h.unit, fun hk => h'.config hk ∘ h.config hk⟩

theorem Port.ServiceSound.unit {v : LinkUnit} (hp : p.ServiceSound) (hs : v.state.inService = p.unit.state.inService)
    (hq : v.qualified = true → p.unit.qualified = true ∧ (p.unit.state = .qualify → v.state = .qualify)) :
    ({ p with unit := v } : Port).ServiceSound := by
  obtain ⟨hlen, hcontrol, hflush, hqueued, hnote⟩ := hp
  refine ⟨hlen, fun ho => hcontrol (hs ▸ ho), fun hi => hflush (hs ▸ hi), fun ho => hqueued (hs ▸ ho), fun h => ?_⟩
  obtain ⟨hwas, hstays⟩ := hq h
  exact ⟨hstays (hnote hwas).1, (hnote hwas).2⟩

theorem Port.ConfigSound.unit (hp : p.ConfigSound k) (v : LinkUnit) : ({ p with unit := v } : Port).ConfigSound k :=
  ⟨hp.map, hp.xoff, hp.grant⟩

/-- A link whose link unit alone changes. -/
theorem LinkUnit.Kept.port {v : LinkUnit} (h : p.unit.Kept v) : Port.Kept k p { p with unit := v } :=
  ⟨fun hp => hp.unit h.inService h.qualified, h.sound, fun _ hp => hp.unit v⟩

/-! ### Queues -/

theorem total_eq_zero_iff {x : LinkQueues} : x.total = 0 ↔ ∀ c : ClassId, x.lists[c] = [] := by
  simp [LinkQueues.total, Fin.forall_fin_succ, and_assoc]

theorem total_pos_iff {x : LinkQueues} : 0 < x.total ↔ ∃ c : ClassId, x.lists[c] ≠ [] := by
  rw [Nat.pos_iff_ne_zero, Ne, total_eq_zero_iff, not_forall]

theorem setList_lists_self (p : Port) (c : ClassId) (xs : List Nat) : (p.setList c xs).queues.lists[c] = xs := by
  simp [Port.setList]

theorem setList_lists_ne (p : Port) (xs : List Nat) (h : d ≠ c) : (p.setList c xs).queues.lists[d] = p.queues.lists[d] := by
  have : c.val ≠ d.val := fun e => h (Fin.ext e.symm)
  simp [Port.setList, this]

theorem setXoff_xoff_self (p : Port) (c : ClassId) (b : Bool) : (p.setXoff c b).queues.xoff[c] = b := by
  simp [Port.setXoff]

theorem setXoff_xoff_ne (p : Port) (b : Bool) (h : d ≠ c) : (p.setXoff c b).queues.xoff[d] = p.queues.xoff[d] := by
  have : c.val ≠ d.val := fun e => h (Fin.ext e.symm)
  simp [Port.setXoff, this]

/-- No invariant of the service reads an XOFF flag. -/
theorem Port.ServiceSound.setXoff (h : p.ServiceSound) (c : ClassId) (b : Bool) : (p.setXoff c b).ServiceSound := h

theorem Port.XoffAgrees.setXoff_ne (h : p.XoffAgrees k d) (hd : d ≠ c) (b : Bool) : (p.setXoff c b).XoffAgrees k d := by
  unfold Port.XoffAgrees
  rw [setXoff_xoff_ne p b hd]
  exact h

theorem xoffAgrees_setXoff_self {b : Bool} : (p.setXoff c b).XoffAgrees k c ↔
    (paramValue k (.xoffHi c) ≤ p.queues.lists[c].length → b = true) ∧
      (p.queues.lists[c].length ≤ paramValue k (.xoffLo c) → b = false) := by
  unfold Port.XoffAgrees
  rw [setXoff_xoff_self]
  rfl

/-- The three evaluations set the flag, to the value that stands when the length is between the thresholds. -/
theorem raiseXoff_eq (k : Params) (c : ClassId) (p : Port) : p.raiseXoff k c =
    p.setXoff c (decide (paramValue k (.xoffHi c) ≤ p.queues.lists[c].length) || p.queues.xoff[c]) := by
  unfold Port.raiseXoff
  split <;> rename_i h
  · rw [decide_eq_true h, Bool.true_or]
  · rw [decide_eq_false h, Bool.false_or, setXoff_of_eq rfl]

theorem lowerXoff_eq (k : Params) (c : ClassId) (p : Port) : p.lowerXoff k c =
    p.setXoff c (!decide (p.queues.lists[c].length ≤ paramValue k (.xoffLo c)) && p.queues.xoff[c]) := by
  unfold Port.lowerXoff
  split <;> rename_i h
  · rw [decide_eq_true h, Bool.not_true, Bool.false_and]
  · rw [decide_eq_false h, Bool.not_false, Bool.true_and, setXoff_of_eq rfl]

theorem reevaluate_eq (k : Params) (p : Port) (c : ClassId) : p.reevaluate k c =
    p.setXoff c (decide (paramValue k (.xoffHi c) ≤ p.queues.lists[c].length) ||
      (!decide (p.queues.lists[c].length ≤ paramValue k (.xoffLo c)) && p.queues.xoff[c])) := by
  by_cases hi : paramValue k (.xoffHi c) ≤ p.queues.lists[c].length
  · rw [reevaluate_high hi, decide_eq_true hi, Bool.true_or]
  · rw [decide_eq_false hi, Bool.false_or, ← lowerXoff_eq]
    exact if_neg hi

/-- A change of one queue and its flag keeps the configuration when that flag agrees after it. -/
theorem Port.ConfigSound.setList_setXoff {xs : List Nat} {b : Bool} (h : p.ConfigSound k)
    (hc : (paramValue k (.xoffHi c) ≤ xs.length → b = true) ∧ (xs.length ≤ paramValue k (.xoffLo c) → b = false)) :
    ((p.setList c xs).setXoff c b).ConfigSound k where
  map := h.map
  grant := h.grant
  xoff d := by
    by_cases hd : d = c
    · subst hd
      rw [xoffAgrees_setXoff_self, setList_lists_self]
      exact hc
    · refine .setXoff_ne ?_ hd b
      unfold Port.XoffAgrees
      rw [setList_lists_ne p xs hd]
      exact h.xoff d

theorem Port.ServiceSound.setList (h : p.ServiceSound) {xs : List Nat}
    (hx : p.unit.state.inService = false → xs ≠ [] → p.queues.lists[c] ≠ []) : (p.setList c xs).ServiceSound := by
  obtain ⟨hlen, hcontrol, hflush, hqueued, hnote⟩ := h
  refine ⟨hlen, hcontrol, hflush, fun ho ht => hqueued ho ?_, hnote⟩
  obtain ⟨d, hd⟩ := total_pos_iff.1 ht
  rw [total_pos_iff]
  by_cases hdc : d = c
  · subst hdc
    rw [setList_lists_self] at hd
    exact ⟨d, hx ho hd⟩
  · exact ⟨d, by rwa [setList_lists_ne p xs hdc] at hd⟩

/-- R97: a descriptor joins a queue of a link in service. -/
theorem kept_append (slot : Nat) (hs : p.unit.state.inService = true) : Port.Kept k p (p.append k c slot) where
  service hp := by
    rw [Port.append, raiseXoff_eq]
    exact (hp.setList fun ho => by rw [hs] at ho; exact absurd ho (by decide)).setXoff ..
  unit hu := by rw [Port.append, raiseXoff_eq]; exact hu
  config hk hp := by
    have hpair := hk.xoff c
    obtain ⟨hhi, hlo⟩ := hp.xoff c
    rw [Port.append, raiseXoff_eq, setList_lists_self]
    refine hp.setList_setXoff ⟨fun h => by rw [decide_eq_true h, Bool.true_or], fun h => ?_⟩
    rw [List.length_append, List.length_singleton] at h ⊢
    rw [decide_eq_false (by omega), Bool.false_or]
    exact hlo (by omega)

/-- R103: the head of a queue leaves it. -/
theorem kept_removeHead {slot : Nat} {rest : List Nat} (h : p.queues.lists[c] = slot :: rest) :
    Port.Kept k p (p.removeHead k c rest) where
  service hp := by
    rw [Port.removeHead, lowerXoff_eq]
    exact (hp.setList fun _ _ => by rw [h]; exact List.cons_ne_nil _ _).setXoff ..
  unit hu := by rw [Port.removeHead, lowerXoff_eq]; exact hu
  config hk hp := by
    have hpair := hk.xoff c
    obtain ⟨hhi, hlo⟩ := hp.xoff c
    rw [h, List.length_cons] at hhi
    rw [Port.removeHead, lowerXoff_eq, setList_lists_self]
    refine hp.setList_setXoff ⟨fun hi => ?_, fun h => by rw [decide_eq_true h, Bool.not_true, Bool.false_and]⟩
    rw [decide_eq_false (by omega), Bool.not_false, Bool.true_and]
    exact hhi (by omega)

/-! ### Every flag evaluated anew under other parameters (R107) -/

theorem xoffAgrees_reevaluate_self (hk : ParamsSound k) : (p.reevaluate k c).XoffAgrees k c := by
  have hpair := hk.xoff c
  rw [reevaluate_eq, xoffAgrees_setXoff_self]
  refine ⟨fun h => by rw [decide_eq_true h, Bool.true_or], fun h => ?_⟩
  rw [decide_eq_false (by omega), decide_eq_true h]
  rfl

theorem Port.XoffAgrees.reevaluate (h : p.XoffAgrees k d) (hk : ParamsSound k) (c : ClassId) :
    (p.reevaluate k c).XoffAgrees k d := by
  by_cases hd : d = c
  · subst hd; exact xoffAgrees_reevaluate_self hk
  · rw [reevaluate_eq]; exact h.setXoff_ne hd _

/-- From `p` to `q` at most XOFF flags move. -/
structure Port.XoffMoved (p q : Port) : Prop where
  unit : q.unit = p.unit
  map : q.map = p.map
  lists : q.queues.lists = p.queues.lists
  flushing : q.queues.flushing = p.queues.flushing
  sched : q.sched = p.sched

theorem Port.XoffMoved.service (h : p.XoffMoved q) (hp : p.ServiceSound) : q.ServiceSound := by
  have total : q.queues.total = p.queues.total := by unfold LinkQueues.total; rw [h.lists]
  unfold Port.ServiceSound
  rw [h.unit, h.sched, h.flushing, total]
  exact hp

theorem xoffMoved_reevaluate (p : Port) (k : Params) (cs : List ClassId) : p.XoffMoved (cs.foldl (Port.reevaluate k) p) := by
  induction cs generalizing p with
  | nil => exact ⟨rfl, rfl, rfl, rfl, rfl⟩
  | cons c rest ih =>
    have next := ih (p.reevaluate k c)
    rw [List.foldl_cons]
    rw [reevaluate_eq] at next ⊢
    exact ⟨next.unit, next.map, next.lists, next.flushing, next.sched⟩

/-- Evaluated anew, the flag of a class agrees; one that is not evaluated agrees when it did. -/
theorem xoffAgrees_foldl_reevaluate (hk : ParamsSound k) (cs : List ClassId) (p : Port) (h : d ∈ cs ∨ p.XoffAgrees k d) :
    (cs.foldl (Port.reevaluate k) p).XoffAgrees k d := by
  induction cs generalizing p with
  | nil => exact h.resolve_left List.not_mem_nil
  | cons c rest ih =>
    refine ih _ ?_
    rcases h with h | h
    · rcases List.mem_cons.1 h with rfl | h
      · exact .inr (xoffAgrees_reevaluate_self hk)
      · exact .inl h
    · exact .inr (h.reevaluate hk c)

end Sys2Proof.Machine
end

section
/-! SUPPORT. What a link keeps when it leaves service, enters it, or is held out of it (spec/02_fabric_links.md, R25, R29, R32, R37 to
R40, R45, R48; spec/05_cell_buffer_and_output_queues.md, R109, R111; spec/07_link_transmit_scheduling.md, R138, R142, R143). -/

namespace Sys2Proof.Machine

variable {k : Params} {p : Port}

/-! ### A link out of service, and one in it, with its note clear -/

theorem serviceSound_out (ho : p.unit.state.inService = false) (hq : p.unit.qualified = false) (hc : p.sched.control = [])
    (hf : 0 < p.queues.total → p.queues.flushing = true) : p.ServiceSound := by
  refine ⟨by rw [hc]; exact Nat.zero_le 4, fun _ => hc, fun h => ?_, fun _ => hf, fun h => ?_⟩
  · exact absurd (ho.symm.trans h) Bool.false_ne_true
  · exact absurd (hq.symm.trans h) Bool.false_ne_true

theorem serviceSound_in (hs : p.unit.state.inService = true) (hq : p.unit.qualified = false)
    (hlen : p.sched.control.length ≤ 4) (hf : p.queues.flushing = false) : p.ServiceSound := by
  refine ⟨hlen, fun h => ?_, fun _ => hf, fun h => ?_, fun h => ?_⟩
  · exact absurd (h.symm.trans hs) Bool.false_ne_true
  · exact absurd (h.symm.trans hs) Bool.false_ne_true
  · exact absurd (hq.symm.trans h) Bool.false_ne_true

/-- What a link out of service is sound in. -/
theorem Port.ServiceSound.out (h : p.ServiceSound) (ho : p.unit.state.inService = false) :
    p.sched.control = [] ∧ (0 < p.queues.total → p.queues.flushing = true) :=
  let ⟨_, hcontrol, _, hqueued, _⟩ := h
  ⟨hcontrol ho, hqueued ho⟩

/-! ### Departures (R37, R39, R40, R109, R139) -/

theorem flushRequested_lists (x : LinkQueues) : x.flushRequested.lists = x.lists := by
  unfold LinkQueues.flushRequested
  split_ifs <;> rfl

theorem flushRequested_flushing {x : LinkQueues} (h : 0 < x.total) : x.flushRequested.flushing = true := by
  unfold LinkQueues.flushRequested
  split_ifs with hf h0
  · exact hf
  · omega
  · rfl

theorem xoffAgrees_emptied (hk : ParamsSound k) {c : ClassId} (he : p.queues.lists[c] = [])
    (hx : p.queues.xoff[c] = false) : p.XoffAgrees k c := by
  have hpair := hk.xoff c
  refine ⟨fun h => ?_, fun _ => hx⟩
  rw [he, List.length_nil] at h
  omega

theorem xoffAgrees_flushRequested (hk : ParamsSound k) {c : ClassId} (h : p.XoffAgrees k c) :
    ({ p with queues := p.queues.flushRequested } : Port).XoffAgrees k c := by
  unfold LinkQueues.flushRequested
  split_ifs with hf h0
  · exact h
  · exact xoffAgrees_emptied hk (total_eq_zero_iff.1 h0 c) (Vector.getElem_replicate ..)
  · exact h

/-- A link that leaves the state it was in, for a state out of service. -/
theorem Port.ServiceSound.left {f : LinkUnit → LinkUnit} (hp : p.ServiceSound) (hf : (f p.unit).state.inService = false)
    (hq : (f p.unit).qualified = false) : (p.left f).ServiceSound := by
  obtain ⟨hlen, hcontrol, -, hqueued, -⟩ := hp
  have noControl : (p.left f).sched.control = [] := by
    unfold Port.left
    split <;> rename_i h
    · rfl
    · exact hcontrol (Bool.eq_false_iff.2 h)
  refine serviceSound_out hf hq noControl fun ht => ?_
  unfold Port.left at ht ⊢
  dsimp only at ht ⊢
  split at ht <;> rename_i h
  · rw [LinkQueues.total, flushRequested_lists] at ht
    rw [if_pos h]
    exact flushRequested_flushing ht
  · rw [if_neg h]
    exact hqueued (Bool.eq_false_iff.2 h) ht

theorem Port.ConfigSound.left (hp : p.ConfigSound k) (hk : ParamsSound k) (f : LinkUnit → LinkUnit) :
    (p.left f).ConfigSound k := by
  refine ⟨hp.map, fun c => ?_, ?_⟩ <;> unfold Port.left
  · split
    · exact xoffAgrees_flushRequested hk (hp.xoff c)
    · exact hp.xoff c
  · split <;> exact hp.grant

theorem kept_left {f : LinkUnit → LinkUnit} (hf : (f p.unit).state.inService = false) (hq : (f p.unit).qualified = false)
    (hs : p.unit.Sound → (f p.unit).Sound) : Port.Kept k p (p.left f) :=
  ⟨fun hp => hp.left hf hq, hs, fun hk hp => hp.left hk f⟩

/-- R39: the drain that ends with the queues empty. -/
theorem kept_endDrain (hd : p.unit.state = .draining) (ht : p.queues.total = 0) :
    Port.Kept k p { p with
      unit := { p.unit with state := .off, lossTimer := none }, sched := { p.sched with control := [] } } where
  service hp := by
    obtain ⟨-, -, -, -, hnote⟩ := hp
    have noNote : p.unit.qualified = false := by
      refine Bool.eq_false_iff.2 fun h => ?_
      rw [hd] at hnote
      exact LinkState.noConfusion (hnote h).1
    exact serviceSound_out rfl noNote rfl fun h => absurd ht h.ne'
  unit hu := by
    unfold LinkUnit.Sound at hu ⊢
    simp_all [LinkState.inService]
  config _ hp := ⟨hp.map, hp.xoff, hp.grant⟩

/-! ### Entries (R25, R29, R32, R45, R111) -/

theorem kept_up (hq : p.unit.state = .qualify) (hf : p.queues.flushing = false) :
    Port.Kept k p { p with unit := p.unit.up } where
  service hp := by
    obtain ⟨hlen, -, -, -, -⟩ := hp
    exact serviceSound_in rfl rfl hlen hf
  unit hu := hu.up hq
  config _ hp := ⟨hp.map, hp.xoff, hp.grant⟩

/-- R29: the qualified note is set in QUALIFY while a flush is in progress. -/
theorem kept_note (hq : p.unit.state = .qualify) (hf : p.queues.flushing = true) :
    Port.Kept k p { p with unit := { p.unit with qualified := true } } where
  service hp := by
    obtain ⟨hlen, hcontrol, hflush, hqueued, -⟩ := hp
    exact ⟨hlen, hcontrol, hflush, hqueued, fun _ => ⟨hq, hf⟩⟩
  unit hu := hu
  config _ hp := ⟨hp.map, hp.xoff, hp.grant⟩

theorem kept_toBlank (d : Nat) (h : p.unit.state = .off ∨ p.unit.state = .fault ∧ p.unit.holdDown = none) :
    Port.Kept k p (p.toBlank d) where
  service hp := by
    have out : p.unit.state.inService = false := by rcases h with h | ⟨h, -⟩ <;> rw [h] <;> rfl
    exact serviceSound_out rfl rfl (hp.out out).1 (hp.out out).2
  unit hu := by
    unfold LinkUnit.Sound Port.toBlank at *
    rcases h with h | ⟨h, hn⟩ <;> simp_all [LinkState.inService]
  config _ hp := ⟨hp.map, hp.xoff, hp.grant⟩

theorem kept_toTest (ho : p.unit.state = .off) : Port.Kept k p p.toTest where
  service hp := by
    have out : p.unit.state.inService = false := by rw [ho]; rfl
    have noNote : p.unit.qualified = false := by
      refine Bool.eq_false_iff.2 fun h => ?_
      obtain ⟨-, -, -, -, hnote⟩ := hp
      rw [ho] at hnote
      exact LinkState.noConfusion (hnote h).1
    exact serviceSound_out rfl noNote (hp.out out).1 (hp.out out).2
  unit hu := by
    unfold LinkUnit.Sound Port.toTest at *
    simp_all [LinkState.inService]
  config _ hp := ⟨hp.map, hp.xoff, hp.grant⟩

/-- R111: the queues of a link whose flush has ended. -/
def Port.flushDone (p : Port) : Port :=
  { p with queues := { p.queues with xoff := Vector.replicate 4 false, flushing := false } }

/-- R29, R111: the end of a flush takes a link that waits in QUALIFY with its note set to UP. -/
def Port.flushEnds (p : Port) : Port :=
  if p.unit.state = .qualify ∧ p.unit.qualified = true then { p.flushDone with unit := p.unit.up } else p.flushDone

theorem kept_flushEnds (ht : p.queues.total = 0) : Port.Kept k p p.flushEnds := by
  have config : ParamsSound k → p.ConfigSound k → p.flushDone.ConfigSound k := fun hk hp =>
    ⟨hp.map, fun c => xoffAgrees_emptied hk (total_eq_zero_iff.1 ht c) (Vector.getElem_replicate ..), hp.grant⟩
  unfold Port.flushEnds
  split <;> rename_i h
  · refine ⟨fun ⟨hlen, _⟩ => ?_, fun hu => hu.up h.1, fun hk hp => ?_⟩
    · exact serviceSound_in rfl rfl hlen rfl
    · obtain ⟨hm, hx, hg⟩ := config hk hp
      exact ⟨hm, hx, hg⟩
  · refine ⟨fun ⟨hlen, hcontrol, _, _, hnote⟩ => ?_, id, config⟩
    exact ⟨hlen, hcontrol, fun _ => rfl, fun _ hpos => absurd hpos (Nat.not_lt.2 ht.le), fun hq => absurd ⟨(hnote hq).1, hq⟩ h⟩

/-! ### The scheduler (R138, R142, R143) -/

/-- The control queue of a link in service takes at most 4 cells; that of any other link is empty. -/
theorem kept_control {xs : List ControlCell} (hlen : p.ServiceSound → xs.length ≤ 4)
    (hs : p.unit.state.inService = true ∨ xs = []) : Port.Kept k p { p with sched := { p.sched with control := xs } } where
  service hp := by
    obtain ⟨-, -, hflush, hqueued, hnote⟩ := id hp
    exact ⟨hlen hp, fun ho => hs.resolve_left fun h => Bool.false_ne_true (ho.symm.trans h),
      hflush, hqueued, hnote⟩
  unit := id
  config _ hp := ⟨hp.map, hp.xoff, hp.grant⟩

theorem weight_bounds (hk : ParamsSound k) (x : RoundRobin) : 1 ≤ paramValue k (.weight x) ∧ paramValue k (.weight x) ≤ 15 := by
  have judged := hk.1 (Param.weight x).index
  have kind : paramKind (Param.weight x).index.val = .numeric 1 15 := by cases x <;> rfl
  rw [kind] at judged
  have clamped : clamp 1 15 (paramValue k (.weight x)) = paramValue k (.weight x) := Option.some.inj judged
  unfold clamp at clamped
  omega

/-- R143: an examination leaves a grant of 1 to 15. -/
theorem examine_grant {eligible : ClassId → Bool} {weight : RoundRobin → Nat} (hw : ∀ x, 1 ≤ weight x ∧ weight x ≤ 15) (n : Nat)
    (x : Scheduler) (h : 1 ≤ x.grant ∧ x.grant ≤ 15) :
    1 ≤ (Scheduler.examine eligible weight n x).1.grant ∧ (Scheduler.examine eligible weight n x).1.grant ≤ 15 := by
  induction n generalizing x with
  | zero => exact h
  | succ n ih =>
    unfold Scheduler.examine
    split
    · dsimp only
      split
      · exact hw _
      · dsimp only; omega
    · exact ih _ (hw _)

theorem examine_control (eligible : ClassId → Bool) (weight : RoundRobin → Nat) (n : Nat) (x : Scheduler) :
    (Scheduler.examine eligible weight n x).1.control = x.control := by
  induction n generalizing x with
  | zero => rfl
  | succ n ih =>
    unfold Scheduler.examine
    split
    · dsimp only; split <;> rfl
    · exact ih _

theorem kept_sched {x : Scheduler} (hc : x.control = p.sched.control)
    (hg : ParamsSound k → 1 ≤ p.sched.grant ∧ p.sched.grant ≤ 15 → 1 ≤ x.grant ∧ x.grant ≤ 15) :
    Port.Kept k p { p with sched := x } where
  service hp := by
    obtain ⟨hlen, hcontrol, hflush, hqueued, hnote⟩ := hp
    exact ⟨by rw [hc]; exact hlen, fun ho => hc.trans (hcontrol ho), hflush, hqueued, hnote⟩
  unit := id
  config hk hp := ⟨hp.map, hp.xoff, hg hk hp.grant⟩

/-! ### SOFT_RESET (R48, R115, R148) -/

theorem softLink_inService (p : Port) (d : Nat) : (p.softLink d).unit.state.inService = false := by
  unfold Port.softLink
  split <;> rename_i h
  · rw [h]; rfl
  all_goals rfl

theorem kept_softReset (d : Nat) : Port.Kept k p (p.softReset d (paramValue k (.weight .one))) where
  service _ := by
    rw [softReset_eq]
    exact serviceSound_out (softLink_inService p d) rfl rfl fun h => absurd h (Nat.lt_irrefl 0)
  unit hu := by
    rw [softReset_eq]
    unfold Port.softLink Port.toBlank
    unfold LinkUnit.Sound at *
    split <;> simp_all [LinkState.inService]
  config hk hp := by
    rw [softReset_eq]
    refine ⟨hp.map, fun c => ?_, weight_bounds hk .one⟩
    exact xoffAgrees_emptied hk (Vector.getElem_replicate ..) (Vector.getElem_replicate ..)

end Sys2Proof.Machine
end

section
/-! SUPPORT. What every operation on the links keeps of the invariants of the service, the configuration and the links
(Sys2Proof/Safety.lean). -/

namespace Sys2Proof.Machine

variable {W : Prop} {s t u : State} {l : LinkId}

/-! ### What the element keeps -/

/-- From `s` to `t` the element keeps its invariants. The links stay in OFF while the loader works; `W` stands for the knowledge
that it does not, which the service of a request has. -/
structure State.Kept (W : Prop) (s t : State) : Prop where
  working : t.boot.working → s.boot.working
  service : (W → ¬s.boot.working) → s.ServiceSound → t.ServiceSound
  links : (W → ¬s.boot.working) → s.ServiceSound → s.LinksSound → t.LinksSound
  config : s.ConfigSound → t.ConfigSound

theorem State.Kept.refl (s : State) : State.Kept W s s := ⟨id, fun _ => id, fun _ _ => id, id⟩

theorem State.Kept.trans (h : State.Kept W s t) (k : State.Kept W t u) : State.Kept W s u where
  working := h.working ∘ k.working
  service hW hs := k.service (fun w => hW w ∘ h.working) (h.service hW hs)
  links hW hs hl := k.links (fun w => hW w ∘ h.working) (h.service hW hs) (h.links hW hs hl)
  config := k.config ∘ h.config

theorem State.ServiceSound.off (h : s.ServiceSound) (hw : s.boot.working) (l : LinkId) : (s.port l).unit.state = .off :=
  (h.1 hw).1 l

theorem State.ServiceSound.noRequests (h : s.ServiceSound) (hw : s.boot.working) : s.agent.requests = [] := (h.1 hw).2

theorem State.ServiceSound.works (h : s.ServiceSound) (hb : s.boot.bus ≠ .idle) : s.boot.working := h.2.1 hb

theorem State.ServiceSound.port (h : s.ServiceSound) (l : LinkId) : (s.port l).ServiceSound := h.2.2.2 l

/-- The loader, the parameters and the requests stand, every link keeps what it is sound in, and none leaves OFF while the loader
works. -/
theorem State.Kept.of_ports (hb : t.boot = s.boot) (ha : t.agent = s.agent)
    (h : ∀ l, Port.Kept s.agent.params (s.port l) (t.port l))
    (hoff : ∀ l, (s.port l).unit.state = .off → (t.port l).unit.state = .off ∨ W) : State.Kept W s t where
  working := hb ▸ id
  service := by
    rintro hW ⟨hwork, hbus, hreq, hports⟩
    unfold State.ServiceSound
    rw [hb, ha]
    refine ⟨fun hw => ⟨fun l => ?_, (hwork hw).2⟩, hbus, hreq, fun l => (h l).service (hports l)⟩
    exact (hoff l ((hwork hw).1 l)).resolve_right fun w => hW w hw
  links _ _ hl l := (h l).unit (hl l)
  config hc := by
    obtain ⟨hk, hports⟩ := configSound_iff.1 hc
    exact configSound_iff.2 ⟨ha ▸ hk, fun l => ha ▸ (h l).config hk (hports l)⟩

theorem Quiet.kept (h : Quiet s t) : State.Kept W s t :=
  .of_ports h.boot h.agent (fun l => (h.port l).kept) fun l ho => .inl (by rw [h.unit]; exact ho)

theorem kept_modPort {f : Port → Port} (h : Port.Kept s.agent.params (s.port l) (f (s.port l)))
    (hoff : (s.port l).unit.state = .off → (f (s.port l)).unit.state = .off ∨ W) : State.Kept W s (s.modPort l f) := by
  refine .of_ports rfl rfl (fun m => ?_) fun m => ?_ <;> rw [port_modPort] <;> split <;> rename_i hm
  · rw [hm]; exact h
  · exact (Port.Alike.refl _).kept
  · rw [hm]; exact hoff
  · exact .inl

/-- A change of one link that leaves its link unit. -/
theorem kept_modPort_of_unit {f : Port → Port} (h : Port.Kept s.agent.params (s.port l) (f (s.port l)))
    (hu : (f (s.port l)).unit = (s.port l).unit) : State.Kept W s (s.modPort l f) :=
  kept_modPort h fun ho => .inl (hu ▸ ho)

theorem kept_modUnit {f : LinkUnit → LinkUnit} (h : (s.port l).unit.Kept (f (s.port l).unit)) :
    State.Kept W s (s.modUnit l f) := kept_modPort h.port fun ho => .inl (h.off ho)

/-! ### Departures (R37, R39, R40) -/

theorem quiet_leave {f : LinkUnit → LinkUnit} (hf : (f (s.port l).unit).state.inService = false)
    (hq : (f (s.port l).unit).state ≠ .qualify) : Quiet (s.modPort l (Port.left f)) (s.leave l f) := by
  refine ⟨by rw [leave_frame hq]; rfl, by rw [leave_frame hq]; rfl, fun m => ?_⟩
  by_cases hm : m = l
  · rw [hm, port_modPort_self, leave_port_self hf hq]; exact .refl _
  · rw [port_modPort_ne hm, leave_port_ne hq hm]
    split
    · exact (quiet_changeNotice s).port m
    · exact .refl _

theorem kept_disableNow (s : State) (l : LinkId) : State.Kept W s (s.disableNow l) :=
  (kept_modPort (kept_left rfl rfl sound_disable) fun _ => .inl rfl).trans
    (quiet_leave (f := LinkUnit.disable) rfl LinkState.noConfusion).kept

/-- A link in QUALIFY, UP or DRAINING whose counts have moved to `v` enters FAULT. -/
theorem kept_enterFault_modUnit {v : LinkUnit} (cause : FaultCause) (hs : v.state = (s.port l).unit.state)
    (hq : v.qualified = (s.port l).unit.qualified) (hv : (s.port l).unit.Sound → v.Still)
    (ho : (s.port l).unit.state ≠ .off) : State.Kept W s ((s.modUnit l fun _ => v).enterFault l cause) := by
  have left (e : Half) (r : Recovery) : Port.Kept s.agent.params (s.port l)
      (Port.left (·.fail cause e r) { s.port l with unit := v }) := by
    refine ⟨fun hp => ?_, fun hu => (hv hu).fail cause e r, fun hk hp => ?_⟩
    · have moved : ({ s.port l with unit := v } : Port).ServiceSound :=
        hp.unit (by rw [hs]) fun h => ⟨hq ▸ h, fun h' => hs.trans h'⟩
      exact moved.left rfl rfl
    · exact (hp.unit v).left hk _
  rw [enterFault_eq_leave]
  refine .trans ?_ ((quiet_leave rfl LinkState.noConfusion).trans (quiet_latchLink ..)).kept
  rw [State.modUnit, modPort_modPort]
  exact kept_modPort (left ..) fun h => absurd h ho

theorem kept_enterFault (cause : FaultCause) (ho : (s.port l).unit.state ≠ .off) (hb : (s.port l).unit.state ≠ .blank)
    (ht : (s.port l).unit.state ≠ .test) : State.Kept W s (s.enterFault l cause) := by
  have same : (s.modUnit l fun _ => (s.port l).unit) = s := modPort_of_fixed rfl
  have := kept_enterFault_modUnit (W := W) cause rfl rfl (fun hu : (s.port l).unit.Sound => hu.still hb ht) ho
  rwa [same] at this

end Sys2Proof.Machine
end

section
/-! SUPPORT. What the link units keep of the invariants of the service, the configuration and the links (spec/02_fabric_links.md). -/

namespace Sys2Proof.Machine

variable {W : Prop} {s t u : State} {l : LinkId}

/-! ### Entry to UP and the end of a flush (R29, R32, R111) -/

theorem quiet_enterUp (s : State) (l : LinkId) :
    Quiet (s.modPort l fun p => { p with unit := p.unit.up }) (s.enterUp l) := by
  refine ⟨by rw [enterUp_frame]; rfl, by rw [enterUp_frame]; rfl, fun m => ?_⟩
  by_cases hm : m = l
  · rw [hm, port_modPort_self, enterUp_port_self]; exact ⟨rfl, rfl, rfl, rfl⟩
  · rw [port_modPort_ne hm, enterUp_port_ne s l hm]; exact (quiet_changeNotice s).port m

theorem quiet_completeFlush (s : State) (l : LinkId) : Quiet (s.modPort l Port.flushEnds) (s.completeFlush l) := by
  unfold State.completeFlush
  simp only [port_modPort_self, Bool.and_eq_true, beq_iff_eq]
  split <;> rename_i h
  · have ends : s.modPort l Port.flushEnds = (s.modPort l Port.flushDone).modPort l fun p => { p with unit := p.unit.up } := by
      rw [modPort_modPort]
      exact modPort_congr (by rw [Port.flushEnds, if_pos h]; rfl)
    rw [ends]
    exact quiet_enterUp ..
  · exact .modPort_of_eq (by rw [Port.flushEnds, if_neg h]; rfl) (.refl _)

theorem kept_flushEnd (s : State) (l : LinkId) : State.Kept W s (s.flushEnd l) := by
  unfold State.flushEnd
  split <;> rename_i h
  · have ht : (s.port l).queues.total = 0 := by simpa using (Bool.and_eq_true_iff.1 h).2
    refine .trans (kept_modPort (kept_flushEnds ht) fun ho => .inl ?_) (quiet_completeFlush s l).kept
    rw [Port.flushEnds, if_neg (by rw [ho]; exact fun h => LinkState.noConfusion h.1)]
    exact ho
  · exact .refl s

theorem kept_removeHead_head {c : ClassId} {slot : Nat} {rest : List Nat} (h : (s.port l).queues.lists[c] = slot :: rest) :
    State.Kept W s (s.removeHead l c slot rest) :=
  .trans (kept_modPort_of_unit (kept_removeHead h) (by rw [Port.removeHead, lowerXoff_eq]; rfl))
    (quiet_removeHead ..).kept

theorem kept_flushOne (s : State) (l : LinkId) : State.Kept W s (s.flushOne l) := by
  unfold State.flushOne
  split
  · split
    · exact .refl s
    · split <;> rename_i h
      · exact .refl s
      · exact (kept_removeHead_head h).trans (quiet_countLink ..).kept
  · exact .refl s

/-! ### Drains (R38, R39) -/

theorem quiet_emptyControl (s : State) (l : LinkId) :
    Quiet (s.modPort l fun p => { p with sched := { p.sched with control := [] } }) (s.emptyControl l) := by
  rw [emptyControl_eq]
  exact .of_ports rfl rfl rfl

theorem kept_tellQueuesEmpty (s : State) (l : LinkId) : State.Kept W s (s.tellQueuesEmpty l) := by
  unfold State.tellQueuesEmpty
  split <;> rename_i h
  · obtain ⟨hd, ht⟩ := Bool.and_eq_true_iff.1 h
    refine .trans ?_ (quiet_emptyControl (s.modUnit l fun u => { u with state := .off, lossTimer := none }) l).kept
    rw [State.modUnit, modPort_modPort]
    exact kept_modPort (kept_endDrain (by simpa using hd) (by simpa using ht)) fun _ => .inl rfl
  · exact .refl s

theorem kept_startDrain {v : LinkUnit} (hu : v.state = .up) :
    v.Kept { v with state := .draining, drainCount := 0, flapCount := 0, upRising := false, flapDue := false } where
  off ho := absurd (hu.symm.trans ho) LinkState.noConfusion
  inService := by rw [hu]; rfl
  qualified h := ⟨h, fun hq => absurd (hu.symm.trans hq) LinkState.noConfusion⟩
  sound h := by
    unfold LinkUnit.Sound at h ⊢
    simp_all [LinkState.inService]

theorem kept_forgetFlaps (v : LinkUnit) : v.Kept { v with flapCount := 0 } where
  off := id
  inService := rfl
  qualified h := ⟨h, id⟩
  sound h := by
    unfold LinkUnit.Sound at h ⊢
    simp_all

theorem kept_disableDrain (s : State) (l : LinkId) : State.Kept W s (s.disableDrain l) := by
  unfold State.disableDrain
  split <;> rename_i h
  · exact ((kept_modUnit (kept_startDrain h)).trans (quiet_changeNotice _).kept).trans (kept_tellQueuesEmpty _ l)
  · exact kept_modUnit (kept_forgetFlaps _)
  all_goals exact kept_disableNow s l

theorem Port.ServiceSound.noNote {p : Port} (hp : p.ServiceSound) (h : p.unit.state ≠ .qualify) : p.unit.qualified = false := by
  obtain ⟨-, -, -, -, hnote⟩ := hp
  exact Bool.eq_false_iff.2 fun hq => h (hnote hq).1

theorem quiet_left (s : State) (l : LinkId) (f : LinkUnit → LinkUnit) : Quiet (s.modPort l (Port.left f)) (s.left l f) :=
  .of_ports rfl rfl rfl

theorem kept_drainAtLimit (s : State) (l : LinkId) : State.Kept W s (s.drainAtLimit l) := by
  unfold State.drainAtLimit
  split <;> rename_i h
  · have hd : (s.port l).unit.state = .draining := by simpa using (Bool.and_eq_true_iff.1 h).1
    have abandons := abandonTraffic_eq (s := s) (l := l) (f := fun u => { u with state := .off, lossTimer := none })
      LinkState.noConfusion
    rw [hd] at abandons
    rw [abandons]
    refine .trans ?_ (quiet_latchLink ..).kept
    refine .trans ?_ (quiet_left ..).kept
    refine kept_modPort ⟨fun hp => ?_, fun hu => ?_, fun hk hp => hp.left hk _⟩ fun _ => .inl rfl
    · exact hp.left rfl (hp.noNote (by rw [hd]; exact LinkState.noConfusion))
    · unfold LinkUnit.Sound Port.left at *
      simp_all [LinkState.inService]
  · exact .refl s

/-! ### Timers and boundaries (R26, R33, R34, R36, R43) -/

theorem kept_lossExpiry (s : State) (l : LinkId) : State.Kept W s (s.lossExpiry l) := by
  unfold State.lossExpiry
  dsimp only
  split <;> rename_i h
  · rcases inService_iff.1 (Bool.and_eq_true_iff.1 h).1 with h | h <;>
      exact kept_enterFault _ (by rw [h]; exact LinkState.noConfusion) (by rw [h]; exact LinkState.noConfusion)
        (by rw [h]; exact LinkState.noConfusion)
  · exact .refl s

theorem kept_linkBoundary (s : State) (l : LinkId) : State.Kept W s (s.linkBoundary l) := by
  unfold State.linkBoundary
  split
  · exact .refl s
  · refine kept_modPort ?_ fun ho => .inl ((kept_boundaryWork ..).off ho)
    refine (kept_boundaryWork (s.port l).unit (s.param .flapClear)).port.trans ?_
    exact Port.Alike.kept ⟨rfl, rfl, rfl, rfl⟩

theorem kept_stateEndHoldDown (s : State) (l : LinkId) : State.Kept W s (s.endHoldDown l) := by
  unfold State.endHoldDown
  split <;> rename_i h
  · have hf : (s.port l).unit.state = .fault := by simpa using (Bool.and_eq_true_iff.1 h).1
    dsimp only
    have counted : State.Kept W s
        (s.modUnit l fun u => { u with holdDown := none, flapCount := min 255 (u.flapCount + 1) }) :=
      kept_modUnit (kept_endHoldDown _)
    split
    · exact counted.trans (quiet_latchLink ..).kept
    · refine counted.trans (kept_modPort (kept_toBlank _ (.inr ?_)) fun ho => ?_) <;> rw [port_modUnit_self] at *
      · exact ⟨hf, rfl⟩
      · exact absurd (hf.symm.trans ho) LinkState.noConfusion
  · exact .refl s

/-! ### Reports of the classifier (R20, R28 to R31, R34, R35) -/

theorem kept_compareRuns (hq : (s.port l).unit.state = .qualify) : State.Kept W s (s.compareRuns l) := by
  have off {P : Prop} (h : (s.port l).unit.state = .off) : P := absurd (hq.symm.trans h) LinkState.noConfusion
  unfold State.compareRuns
  dsimp only
  split_ifs with hm hn hf
  · exact kept_enterFault _ (by rw [hq]; exact LinkState.noConfusion) (by rw [hq]; exact LinkState.noConfusion)
      (by rw [hq]; exact LinkState.noConfusion)
  · exact kept_modPort (kept_note hq hf) off
  · exact (kept_modPort (kept_up hq (by simpa using hf)) off).trans (quiet_enterUp ..).kept
  · exact .refl s

/-- R34, R35: the link unit in UP or DRAINING after the counts of a report. -/
def LinkUnit.moved (u : LinkUnit) (r : Report) : LinkUnit := (u.moveService r).moveMismatch r

theorem moved_eq (v : LinkUnit) (r : Report) : v.moved r =
    { v with markerRun := (v.moved r).markerRun, errorCount := (v.moved r).errorCount, mismatchRun := (v.moved r).mismatchRun } := by
  rcases r with _ | (_ | _) | _ | _ <;> rfl

theorem LinkUnit.Still.moved {v : LinkUnit} (h : v.Still) (r : Report) : (v.moved r).Still := by
  obtain ⟨blank, checker, flaps, ups⟩ := h
  rw [moved_eq]
  exact ⟨blank, checker, flaps, ups⟩

theorem kept_moved {v : LinkUnit} {r : Report} (h : (v.moved r).markerRun < 4) : v.Kept (v.moved r) := by
  rw [moved_eq]
  refine ⟨id, rfl, fun h => ⟨h, id⟩, fun hu => ?_⟩
  unfold LinkUnit.Sound at hu ⊢
  simp_all

theorem markerRun_of_serviceFault {r : Report} {v : LinkUnit}
    (h : (s.modUnit l fun _ => v.moved r).serviceFault l r = none) : (v.moved r).markerRun < 4 := by
  cases r with
  | marker =>
    rw [serviceFault_marker] at h
    by_contra hn
    exact Option.some_ne_none _ ((if_pos (Nat.not_lt.1 hn)).symm.trans h)
  | idle b => cases b <;> exact Nat.succ_pos 3
  | checkFailed | other => exact Nat.succ_pos 3

theorem kept_serviceReport (r : Report) (hs : (s.port l).unit.state = .up ∨ (s.port l).unit.state = .draining) :
    State.Kept W s (s.report l r) := by
  have ne (x : LinkState) (hx : x.inService = false) : (s.port l).unit.state ≠ x := by
    rintro rfl
    exact Bool.false_ne_true (hx.symm.trans (inService_iff.2 hs))
  rw [report_service hs (v := (s.port l).unit.moved r) rfl]
  cases h : (s.modUnit l fun _ => (s.port l).unit.moved r).serviceFault l r with
  | some cause =>
    refine kept_enterFault_modUnit cause (by rw [moved_eq]) (by rw [moved_eq]) (fun hu => ?_) (ne .off rfl)
    exact (hu.still (ne .blank rfl) (ne .test rfl)).moved r
  | none => exact kept_modUnit (f := fun _ => (s.port l).unit.moved r) (kept_moved (markerRun_of_serviceFault h))

theorem kept_qualifyReport (r : Report) (hq : (s.port l).unit.state = .qualify) : State.Kept W s (s.report l r) := by
  rw [report_qualify hq rfl]
  refine .trans (kept_modUnit (kept_moveMismatch_moveQual _ r)) (kept_compareRuns ?_)
  rw [port_modUnit_self, moveMismatch_moveQual]
  exact hq

theorem kept_report (s : State) (l : LinkId) (r : Report) : State.Kept W s (s.report l r) := by
  cases h : (s.port l).unit.state with
  | qualify => exact kept_qualifyReport r h
  | up => exact kept_serviceReport r (.inl h)
  | draining => exact kept_serviceReport r (.inr h)
  | _ =>
    rw [State.report, h]
    exact .refl s

end Sys2Proof.Machine
end

section
/-! SUPPORT. What received cells and the transmitters keep of the invariants of the service, the configuration and the links
(spec/01_cells.md, R16 to R19; spec/05_cell_buffer_and_output_queues.md, R97 to R103; spec/07_link_transmit_scheduling.md, R135 to
R146). -/

namespace Sys2Proof.Machine

variable {W : Prop} {s t u : State} {l : LinkId}

/-! ### Admission (R97 to R100) -/

theorem append_unit (s : State) (l : LinkId) (c : ClassId) (slot : Nat) (m : LinkId) :
    ((s.append l c slot).port m).unit = (s.port m).unit := by
  rw [(quiet_append s l c slot).unit m, port_modPort]
  split <;> rename_i h
  · rw [h, Port.append, raiseXoff_eq]; rfl
  · rfl

theorem kept_stateAppend (c : ClassId) (slot : Nat) (hs : (s.port l).unit.state.inService = true) :
    State.Kept W s (s.append l c slot) :=
  .trans (kept_modPort_of_unit (kept_append slot hs) (by rw [Port.append, raiseXoff_eq]; rfl)) (quiet_append ..).kept

theorem kept_foldl_append (c : ClassId) (slot : Nat) (targets : List Target) (s : State)
    (hs : ∀ m ∈ targets, (s.port m).unit.state.inService = true) :
    State.Kept W s (targets.foldl (fun t l => t.append l c slot) s) := by
  induction targets generalizing s with
  | nil => exact .refl s
  | cons m rest ih =>
    refine (kept_stateAppend c slot (hs m (List.mem_cons_self ..))).trans (ih _ fun n hn => ?_)
    rw [append_unit]
    exact hs n (List.mem_cons_of_mem _ hn)

theorem kept_admitCell (c : ClassId) (cell : Cell) (targets : List Target)
    (hs : ∀ m ∈ targets, (s.port m).unit.state.inService = true) : State.Kept W s (s.admitCell c cell targets) := by
  have stored : Quiet s { s with buffer := s.buffer.store cell targets.length } := .of_ports rfl rfl rfl
  unfold State.admitCell
  dsimp only
  exact (stored.kept.trans (kept_foldl_append c _ targets _ hs)).trans ((quiet_evalCongestion _).trans (quiet_latchExhaustion _)).kept

theorem kept_admitUnicast (arrival : LinkId) (c : ClassId) (cell : Cell) {target : Target}
    (hs : (s.port target).unit.state.inService = true) : State.Kept W s (s.admitUnicast arrival c cell target) := by
  unfold State.admitUnicast
  split
  · exact (quiet_countLink ..).kept
  · exact kept_admitCell c cell [target] fun m hm => List.mem_singleton.1 hm ▸ hs

theorem judgeTargets_admitted (c : ClassId) (targets : List Target) : ∀ m ∈ (s.judgeTargets c targets).admitted, m ∈ targets := by
  have judged (ts : List Target) (j : Judged) (m : Target) (h : m ∈ (ts.foldl (s.judgeTarget c) j).admitted) :
      m ∈ j.admitted ∨ m ∈ ts := by
    induction ts generalizing j with
    | nil => exact .inl h
    | cons x rest ih =>
      rcases ih _ h with h | h
      · unfold State.judgeTarget at h
        split_ifs at h <;> simp_all
        tauto
      · exact .inr (List.mem_cons_of_mem _ h)
  intro m hm
  unfold State.judgeTargets at hm
  split at hm
  · exact absurd hm List.not_mem_nil
  · exact (judged targets _ m hm).resolve_left List.not_mem_nil

theorem kept_admitMulticast (arrival : LinkId) (c : ClassId) (cell : Cell) {targets : List Target}
    (hs : ∀ m ∈ targets, (s.port m).unit.state.inService = true) :
    State.Kept W s (s.admitMulticast arrival c cell targets) := by
  unfold State.admitMulticast
  dsimp only
  split
  · exact ((quiet_countDrops ..).trans (quiet_countWholeLoss ..)).kept
  · exact (kept_admitCell c cell _ fun m hm => hs m (judgeTargets_admitted c targets m hm)).trans (quiet_countDrops ..).kept

/-! ### Resolution (R61 to R66) -/

theorem liveTarget_up {d : Dcn} {target : Target} (h : s.liveTarget d = some target) :
    (s.port target).unit.state.inService = true := by
  obtain ⟨i, hi, hm⟩ := Option.bind_eq_some_iff.1 h
  have live := List.find?_some hi
  rw [hm, Option.any_some] at live
  rw [isUp_iff.1 live]
  rfl

theorem kept_resolveUnicast (s : State) (arrival : LinkId) (c : ClassId) (cell : Cell) (d : Dcn) :
    State.Kept W s (s.resolveUnicast arrival c cell d) := by
  unfold State.resolveUnicast
  split
  · exact (quiet_countLink ..).kept
  · exact ((quiet_markDest ..).trans (quiet_countLink ..)).kept
  · exact (quiet_countLink ..).kept
  · split <;> rename_i h
    · refine (quiet_advancePointer s d).kept.trans (kept_admitUnicast arrival c cell ?_)
      rw [(quiet_advancePointer s d).unit]
      exact liveTarget_up h
    · exact (quiet_countLink ..).kept

/-- What the resolution of a multicast cell has made of the element, and the links it has found. -/
structure Resolved (s : State) (a : Resolving) : Prop where
  quiet : Quiet s a.state
  targets : ∀ m ∈ a.targets, (s.port m).unit.state.inService = true

theorem Resolved.state {a : Resolving} (h : Resolved s a) (hq : Quiet a.state t) : Resolved s { a with state := t } :=
  ⟨h.quiet.trans hq, h.targets⟩

theorem Resolved.member {a : Resolving} (h : Resolved s a) (arrival : LinkId) (echo : Bool) (d : Dcn) :
    Resolved s (resolveMember arrival echo a d) := by
  unfold resolveMember
  split
  · exact h.state (quiet_countLink ..)
  · exact h.state (quiet_countLink ..)
  · exact h.state ((quiet_markDest ..).trans (quiet_countLink ..))
  · split
    · exact h
    · split <;> rename_i hl
      · refine ⟨h.quiet.trans (quiet_advancePointer ..), fun m hm => ?_⟩
        rcases List.mem_append.1 hm with hm | hm
        · exact h.targets m hm
        · rw [List.mem_singleton.1 hm, ← h.quiet.unit]
          exact liveTarget_up hl
      · exact h.state (quiet_countLink ..)

theorem resolved_resolveMembers (s : State) (arrival : LinkId) (g : GroupId) : Resolved s (s.resolveMembers arrival g) := by
  unfold State.resolveMembers
  have members (ds : List Dcn) (echo : Bool) (a : Resolving) (h : Resolved s a) :
      Resolved s (ds.foldl (resolveMember arrival echo) a) := by
    induction ds generalizing a with
    | nil => exact h
    | cons d rest ih => exact ih _ (h.member arrival echo d)
  exact members _ _ _ ⟨.refl s, fun m hm => absurd hm List.not_mem_nil⟩

theorem kept_resolveMulticast (s : State) (arrival : LinkId) (c : ClassId) (cell : Cell) (g : GroupId) :
    State.Kept W s (s.resolveMulticast arrival c cell g) := by
  unfold State.resolveMulticast
  split
  · exact (quiet_countLink ..).kept
  · exact ((quiet_markGroup ..).trans (quiet_countLink ..)).kept
  · exact (quiet_countLink ..).kept
  · obtain ⟨hq, ht⟩ := resolved_resolveMembers s arrival g
    dsimp only
    split
    · exact (hq.trans (quiet_countLink ..)).kept
    · exact hq.kept.trans (kept_admitMulticast arrival c cell fun m hm => by rw [hq.unit]; exact ht m hm)

/-! ### The consumers of cells (R17 to R19, R127, R159, R164) -/

theorem quiet_takeFlow (s : State) (l : LinkId) (cell : Cell) : Quiet s (s.takeFlow l cell) := by
  refine .foldl (f := fun t c => t.judgeGrant l c (cell.byte c.val)) (fun t c => ?_) allClasses s
  unfold State.judgeGrant
  split
  · exact .modPort ⟨rfl, rfl, rfl, rfl⟩
  · exact (quiet_countLink ..).trans (quiet_latchLink ..)

theorem quiet_takeSync (s : State) (l : LinkId) (value : Half) (elapsed : Nat) : Quiet s (s.takeSync l value elapsed) := by
  unfold State.takeSync
  split_ifs
  · exact quiet_countElement ..
  · exact quiet_externalEpoch ..
  · exact .refl s

/-- The management agent changes but for its parameters, and what it holds of requests is allowed. -/
theorem kept_agent {a : Agent} (hp : a.params = s.agent.params)
    (hr : s.ServiceSound → (s.boot.working → a.requests = []) ∧ a.requests.length ≤ 8) :
    State.Kept W s { s with agent := a } where
  working := id
  service := by
    rintro _ hs
    obtain ⟨hnone, hlen⟩ := hr hs
    obtain ⟨hwork, hbus, -, hports⟩ := hs
    exact ⟨fun hw => ⟨(hwork hw).1, hnone hw⟩, hbus, hlen, hports⟩
  links _ _ hl := hl
  config hc := by
    obtain ⟨hk, hports⟩ := configSound_iff.1 hc
    exact configSound_iff.2 ⟨hp ▸ hk, fun l => hp ▸ hports l⟩

theorem kept_agent_of_requests {a : Agent} (hp : a.params = s.agent.params) (hr : a.requests = s.agent.requests) :
    State.Kept W s { s with agent := a } :=
  kept_agent hp fun ⟨hwork, _, hlen, _⟩ => ⟨fun hw => hr.trans (hwork hw).2, hr ▸ hlen⟩

theorem discardReason_none {cell : Cell} (h : s.discardReason l cell = none) : s.agent.requests.length < 8 := by
  unfold State.discardReason at h
  split_ifs at h with _ _ hlen
  exact Nat.not_le.1 hlen

theorem kept_takeMgmt (cell : Cell) (ho : (s.port l).unit.state ≠ .off) : State.Kept W s (s.takeMgmt l cell) := by
  unfold State.takeMgmt
  split <;> rename_i h
  · refine kept_agent rfl fun ⟨hwork, _⟩ => ⟨fun hw => absurd ((hwork hw).1 l) ho, ?_⟩
    rw [List.length_append, List.length_singleton]
    exact discardReason_none h
  · refine .trans ?_ ((quiet_countElement ..).trans (quiet_latch ..)).kept
    exact kept_agent_of_requests rfl rfl

theorem kept_checked {cell : Cell} {f : State → State} (h : State.Kept W s (f s)) : State.Kept W s (s.checked l cell f) := by
  unfold State.checked
  split
  · exact h
  · exact (quiet_countLink ..).kept.trans (kept_report ..)

theorem kept_notUp (s : State) (l : LinkId) : State.Kept W s (s.notUp l) := (quiet_countLink ..).kept.trans (kept_report ..)

theorem kept_takeIdle (s : State) (l : LinkId) (cell : Cell) : State.Kept W s (s.takeIdle l cell) := kept_checked (kept_report ..)

/-- A received cell, by the state of its link (R16). -/
theorem kept_receive {onTest onQualify onService : State → State}
    (ht : (s.port l).unit.state = .test → State.Kept W s (onTest s))
    (hq : State.Kept W (s.countLink l .rxCells) (onQualify (s.countLink l .rxCells)))
    (hs : (s.port l).unit.state.inService = true → State.Kept W (s.countLink l .rxCells) (onService (s.countLink l .rxCells))) :
    State.Kept W s (s.receive l onTest onQualify onService) := by
  have counted : State.Kept W s (s.countLink l .rxCells) := (quiet_countLink ..).kept
  unfold State.receive
  split <;> rename_i h
  · exact ht h
  · exact counted.trans hq
  · exact counted.trans (hs (by rw [h]; rfl))
  · exact counted.trans (hs (by rw [h]; rfl))
  all_goals exact .refl s

/-- The test checker of a link in TEST (R46). -/
theorem kept_checker {p : Port} {x : Checker} {n : BitVec 16} {k : Params} (h : p.unit.state = .test) :
    Port.Kept k p { p with unit := { p.unit with checker := x }, testErrors := n } where
  service hp := hp.unit rfl fun hq => ⟨hq, id⟩
  unit hu := by
    unfold LinkUnit.Sound at *
    simp_all
  config _ hp := ⟨hp.map, hp.xoff, hp.grant⟩

theorem kept_judgeBad {p : Port} {k : Params} (g : BitVec 31) (n : Nat) (h : p.unit.state = .test) :
    Port.Kept k p (p.judgeBad g n) := kept_checker h

theorem kept_checkTestCell (cell : Cell) (h : (s.port l).unit.state = .test) :
    State.Kept W s (s.modPort l (Port.checkTestCell cell)) := by
  unfold Port.checkTestCell
  refine kept_modPort ?_ fun ho => absurd (h.symm.trans ho) LinkState.noConfusion
  split
  · exact kept_checker h
  · split
    · exact kept_checker h
    · exact kept_judgeBad _ _ h

theorem kept_checkDamaged (h : (s.port l).unit.state = .test) : State.Kept W s (s.modPort l Port.checkDamaged) := by
  unfold Port.checkDamaged
  refine kept_modPort ?_ fun ho => absurd (h.symm.trans ho) LinkState.noConfusion
  split
  · exact (Port.Alike.refl _).kept
  · exact kept_judgeBad _ _ h

/-! ### The transmitters (R103, R135 to R146) -/

theorem kept_sendData (s : State) (l : LinkId) (c : ClassId) : State.Kept W s (s.sendData l c) := by
  unfold State.sendData
  split
  · exact .refl s
  next slot rest h =>
    have head : ((s.hand l (s.headCell l c)).port l).queues.lists[c] = slot :: rest := by
      rw [((quiet_hand ..).port l).queues]
      exact h
    have counted (u : State) : Quiet u (u.modPort l fun p => p.countSent c) := .modPort ⟨rfl, rfl, rfl, rfl⟩
    exact (quiet_hand ..).kept.trans
      ((kept_removeHead_head head).trans ((counted _).kept.trans (kept_tellQueuesEmpty ..)))

theorem quiet_sendFlow (s : State) (l : LinkId) : Quiet s (s.sendFlow l) :=
  (quiet_hand ..).trans (.modPort ⟨rfl, rfl, rfl, rfl⟩)

theorem kept_sendControl {x : ControlCell} {rest : List ControlCell} (hs : (s.port l).unit.state.inService = true)
    (hc : (s.port l).sched.control = x :: rest) : State.Kept W s (s.sendControl l x rest) := by
  refine (quiet_hand ..).kept.trans (kept_modPort_of_unit (kept_control ?_ (.inl ?_)) rfl)
  · rintro ⟨hlen, -⟩
    rw [((quiet_hand ..).port l).sched, hc, List.length_cons] at hlen
    omega
  · rw [(quiet_hand ..).unit]
    exact hs

theorem kept_sendRoundRobin (s : State) (l : LinkId) : State.Kept W s (s.sendRoundRobin l) := by
  have examined : State.Kept W s (s.modPort l fun p => { p with sched := (s.roundRobin l).1 }) :=
    kept_modPort_of_unit
      (kept_sched (examine_control ..) fun hk hg => examine_grant (weight_bounds hk) 3 _ hg) rfl
  unfold State.sendRoundRobin
  dsimp only
  split
  · exact examined.trans (kept_sendData ..)
  · exact examined.trans (quiet_hand ..).kept

theorem kept_select (hs : (s.port l).unit.state.inService = true) : State.Kept W s (s.select l) := by
  unfold State.select
  split
  · exact (quiet_sendFlow s l).kept
  · split <;> rename_i h
    · exact kept_sendControl hs h
    · split
      · exact kept_sendData s l 0
      · exact kept_sendRoundRobin s l

theorem kept_ready (s : State) (l : LinkId) : State.Kept W s (s.ready l) := by
  have counted (hs : (s.port l).unit.state.inService = true) : State.Kept W s ((s.countLink l .txCells).select l) :=
    (quiet_countLink ..).kept.trans (kept_select (by rw [(quiet_countLink ..).unit]; exact hs))
  unfold State.ready
  split <;> rename_i h
  case h_5 => exact (quiet_hand ..).kept.trans (kept_modUnit (kept_generator _ _))
  case h_7 | h_8 => exact counted (by rw [h]; rfl)
  all_goals exact (quiet_hand ..).kept

end Sys2Proof.Machine
end

section
/-! SUPPORT. What the writes of the configuration keep of the invariants of the service, the configuration and the links
(spec/09_management_requests.md, R24, R107, R169, R173, R174; spec/11_boot_and_reset.md, R197). -/

namespace Sys2Proof.Machine

variable {W : Prop} {s t u : State} {l : LinkId} {p q : Params} {f : Fields}

/-! ### The values that a write stores (R173, R174) -/

/-- The bounds of a kind of parameter are in order and fit in 16 bits. -/
def ParamKind.Fits : ParamKind → Prop
  | .numeric lo hi => lo ≤ hi ∧ hi < 65536
  | .codes last => last < 65536
  | .link => True

theorem paramKind_fits (i : Nat) : (paramKind i).Fits := by
  unfold paramKind
  repeat' refine iteInduction (motive := ParamKind.Fits) (fun _ => ?_) fun _ => ?_
  all_goals simp [ParamKind.Fits]

/-- A value that a write stores is one that a write leaves as it is. -/
theorem ParamKind.Fits.judge_again {x : ParamKind} (hx : x.Fits) {v w : Nat} (h : x.judge v = some w) :
    w < 65536 ∧ x.judge w = some w := by
  cases x with
  | numeric lo hi =>
    obtain ⟨hlo, hhi⟩ := hx
    obtain rfl := Option.some.inj h
    refine ⟨?_, congrArg some ?_⟩ <;> unfold clamp <;> omega
  | codes last =>
    rw [ParamKind.judge, Option.ite_none_right_eq_some] at h
    obtain ⟨hv, e⟩ := h
    obtain rfl := Option.some.inj e
    exact ⟨Nat.lt_of_le_of_lt hv hx, if_pos hv⟩
  | link =>
    rw [ParamKind.judge, Option.ite_none_right_eq_some] at h
    obtain ⟨hv, e⟩ := h
    obtain rfl := Option.some.inj e
    exact ⟨by omega, if_pos hv⟩

/-- R174: the parameter at an index has a value that a write leaves as it is. -/
def Params.InRange (p : Params) (j : Fin 30) : Prop := (paramKind j.val).judge p[j].toNat = some p[j].toNat

theorem inRange_set {i : Nat} (hi : i < 30) {v w : Nat} (h : (paramKind i).judge v = some w) (hp : ∀ j, p.InRange j)
    (j : Fin 30) : Params.InRange (p.set i (BitVec.ofNat 16 w)) j := by
  obtain ⟨hw, again⟩ := (paramKind_fits i).judge_again h
  have kept := hp j
  unfold Params.InRange at kept ⊢
  by_cases hj : i = j.val
  · subst hj
    simp only [Fin.getElem_fin, Vector.getElem_set_self, BitVec.toNat_ofNat]
    rw [Nat.mod_eq_of_lt hw]
    exact again
  · simp only [Fin.getElem_fin, Vector.getElem_set_ne hi j.isLt hj] at kept ⊢
    exact kept

theorem storeParams_inRange {vs : List Nat} {i : Nat} (h : storeParams p i vs = some q) (hp : ∀ j, p.InRange j) :
    ∀ j, q.InRange j := by
  induction vs generalizing p i with
  | nil => obtain rfl := Option.some.inj h; exact hp
  | cons v rest ih =>
    unfold storeParams at h
    split at h
    · exact absurd h.symm (Option.some_ne_none q)
    · rename_i w hw
      split at h <;> rename_i hi
      · exact ih h (inRange_set hi hw hp)
      · exact absurd h.symm (Option.some_ne_none q)

/-- A write leaves the parameters that it does not cover. -/
theorem storeParams_uncovered {vs : List Nat} {i : Nat} (h : storeParams p i vs = some q) (j : Fin 30)
    (hj : j.val < i ∨ i + vs.length ≤ j.val) : q[j] = p[j] := by
  induction vs generalizing p i with
  | nil => obtain rfl := Option.some.inj h; rfl
  | cons v rest ih =>
    rw [List.length_cons] at hj
    unfold storeParams at h
    split at h
    · exact absurd h.symm (Option.some_ne_none q)
    · split at h <;> rename_i hi
      · rw [ih h (by omega)]
        exact Vector.getElem_set_ne hi j.isLt (by omega)
      · exact absurd h.symm (Option.some_ne_none q)

theorem pairingsHold_iff : pairingsHold p = true ↔
    (∀ c : ClassId, paramValue p (.xoffLo c) < paramValue p (.xoffHi c)) ∧ paramValue p .fPanic < paramValue p .fResume := by
  simp [pairingsHold, allClasses, Fin.forall_fin_succ]

theorem paramsSound_reset : ParamsSound Params.reset := by
  unfold ParamsSound
  decide

theorem paramsSound_storeParams (h : storeParams p f.index.toNat f.configValues = some q) (hp : ParamsSound p)
    (hq : pairingsHold q = true) : ParamsSound q :=
  ⟨storeParams_inRange h hp.1, pairingsHold_iff.1 hq⟩

theorem configValues_length (f : Fields) : f.configValues.length = f.count.toNat := by simp [Fields.configValues]

theorem paramValue_of_not_covers (h : storeParams p f.index.toNat f.configValues = some q) {k : Param}
    (hk : f.covers k = false) : paramValue q k = paramValue p k := by
  refine congrArg BitVec.toNat (storeParams_uncovered h k.index ?_)
  rw [configValues_length]
  by_contra hin
  rw [Fields.covers, decide_eq_true (by omega), decide_eq_true (by omega)] at hk
  exact Bool.noConfusion hk

/-! ### New parameters and the XOFF flags that follow them (R107) -/

/-- The parameters and the Port Map change, and the flags of some classes are evaluated anew: those of every class whose
thresholds have moved. -/
theorem kept_reconfigure {cs : List ClassId} (hb : u.boot = s.boot) (hr : u.agent.requests = s.agent.requests)
    (hp : ∀ l, ({ s.port l with map := (u.port l).map } : Port).Alike (u.port l))
    (hc : s.ConfigSound → ParamsSound u.agent.params ∧ ∀ l, (u.port l).map.Sound)
    (hx : ∀ d, d ∉ cs → u.param (.xoffHi d) = s.param (.xoffHi d) ∧ u.param (.xoffLo d) = s.param (.xoffLo d)) :
    State.Kept W s (cs.foldl State.xoffReevaluateClass u) := by
  refine .trans (t := u.mapPorts fun p => cs.foldl (Port.reevaluate u.agent.params) p) ?_
    (quiet_foldl_xoffReevaluateClass cs u).kept
  have moved (l : LinkId) := xoffMoved_reevaluate (u.port l) u.agent.params cs
  have unit (l : LinkId) : ((u.mapPorts fun p => cs.foldl (Port.reevaluate u.agent.params) p).port l).unit = (s.port l).unit := by
    rw [port_mapPorts, (moved l).unit, (hp l).unit]
  refine ⟨by rw [mapPorts_boot, hb]; exact id, fun _ ⟨hwork, hbus, hlen, hports⟩ => ?_, fun _ _ hl l => by rw [unit l]; exact hl l,
    fun hs => configSound_iff.2 ⟨(hc hs).1, fun l => ?_⟩⟩
  · refine ⟨fun hw => ⟨fun l => ?_, ?_⟩, ?_, ?_, fun l => ?_⟩
    · rw [unit]; exact (hwork (hb ▸ hw)).1 l
    · exact hr.trans (hwork (hb ▸ hw)).2
    · rw [mapPorts_boot, hb]; exact hbus
    · rw [mapPorts_agent, hr]; exact hlen
    · rw [port_mapPorts]
      exact (moved l).service (.of_alike (hp l) (hports l))
  · obtain ⟨-, hports⟩ := configSound_iff.1 hs
    rw [port_mapPorts]
    refine ⟨?_, fun d => xoffAgrees_foldl_reevaluate (hc hs).1 cs _ ?_, ?_⟩
    · rw [(moved l).map]; exact (hc hs).2 l
    · refine (em (d ∈ cs)).imp_right fun hd => ?_
      obtain ⟨hhi, hlo⟩ := (hports l).xoff d
      obtain ⟨same, same'⟩ := hx d hd
      unfold Port.XoffAgrees
      rw [(hp l).queues]
      exact ⟨fun h => hhi (same.symm.trans_le h), fun h => hlo (h.trans_eq same')⟩
    · rw [(moved l).sched, (hp l).sched]
      exact (hports l).grant

end Sys2Proof.Machine
end

section
/-! SUPPORT. What the service of the management requests keeps of the invariants of the service, the configuration and the links
(spec/09_management_requests.md, R166 to R174; spec/10_flags_notices_and_counters.md, R185). -/

namespace Sys2Proof.Machine

variable {W : Prop} {s t u : State} {l : LinkId} {f : Fields}

/-! ### READ_CLEAR (R172) -/

theorem ClearFrame.quiet (h : ClearFrame s t) : Quiet s t :=
  ⟨by rw [h.rest], by rw [h.rest], fun l => by rw [h.port l]; exact ⟨rfl, rfl, rfl, rfl⟩⟩

theorem quiet_judgeRead (f : Fields) (s : State) : Quiet s (judgeRead f s).state := by
  unfold judgeRead
  split
  · exact .refl s
  · split <;> exact .refl s

theorem quiet_judgeReadClear (f : Fields) (s : State) : Quiet s (judgeReadClear f s).state := by
  unfold judgeReadClear
  split
  · exact .refl s
  · split
    · exact .refl s
    · split
      · exact .refl s
      · exact (clearFrame_foldl ..).quiet

theorem quiet_judgeWriteOther (f : Fields) (s : State) : Quiet s (judgeWriteOther f s).state := by
  unfold judgeWriteOther
  split <;> exact .refl s

/-! ### WRITE of CONFIG (R107, R108, R150, R158, R173) -/

theorem quiet_congestionWritten (s : State) (f : Fields) : Quiet s (s.congestionWritten f) := by
  unfold State.congestionWritten
  split
  · exact quiet_evalCongestion s
  · exact .refl s

theorem quiet_epochWritten (s : State) (f : Fields) : Quiet s (s.epochWritten f) := by
  unfold State.epochWritten
  dsimp only
  split_ifs
  · exact (quiet_modEpoch ..).trans (quiet_modEpoch ..)
  · exact quiet_modEpoch ..
  · exact quiet_modEpoch ..
  · exact .refl s

theorem mem_allClasses : ∀ c : ClassId, c ∈ allClasses := by decide

theorem xoffWritten_eq (s : State) (f : Fields) : s.xoffWritten f =
    (allClasses.filter fun c => f.covers (.xoffHi c) || f.covers (.xoffLo c)).foldl State.xoffReevaluateClass s :=
  List.foldl_filter.symm

theorem kept_applyConfig {q : Params} (h : storeParams s.agent.params f.index.toNat f.configValues = some q)
    (hq : pairingsHold q = true) : State.Kept W s (s.applyConfig f q) := by
  unfold State.applyConfig
  refine .trans ?_ ((quiet_congestionWritten _ f).trans (quiet_epochWritten _ f)).kept
  rw [xoffWritten_eq]
  refine kept_reconfigure rfl rfl (fun l => .refl _) (fun ⟨hk, hm, _⟩ => ⟨paramsSound_storeParams h hk hq, hm⟩) fun d hd => ?_
  have uncovered : f.covers (.xoffHi d) = false ∧ f.covers (.xoffLo d) = false := by
    have unnamed := fun h => hd (List.mem_filter.2 ⟨mem_allClasses d, h⟩)
    simpa using unnamed
  exact ⟨paramValue_of_not_covers h uncovered.1, paramValue_of_not_covers h uncovered.2⟩

theorem kept_judgeWriteConfig (f : Fields) (s : State) : State.Kept W s (judgeWriteConfig f s).state := by
  unfold judgeWriteConfig
  split
  · exact .refl s
  · split
    · exact .refl s
    · split <;> rename_i h
      · exact .refl s
      · split <;> rename_i hq
        · exact kept_applyConfig h hq
        · exact .refl s

/-! ### WRITE of PORT_MAP (R24) -/

theorem sound_parsePortMap {b : List Byte} {e : PortMapEntry} (h : parsePortMap b = some e) : e.Sound := by
  have possible := parsePortMap_eq_none_iff.not.1 (by rw [h]; exact Option.some_ne_none e)
  obtain ⟨hid, hlink, -, -, -, -, hhold, hflap, -, hcredit, hdrain⟩ := of_parsePortMap_eq_some h
  unfold PortMapEntry.Sound
  rw [hid, hlink]
  push Not at possible
  obtain ⟨id, link, -⟩ := possible
  exact ⟨(Nat.lt_or_ge ..).imp_right id, (Nat.lt_or_ge ..).imp_right link, by omega⟩

theorem mem_of_allSome {α : Type} {xs : List (Option α)} {as : List α} (h : allSome xs = some as) {a : α} (ha : a ∈ as) :
    some a ∈ xs := by
  induction xs generalizing as with
  | nil => obtain rfl := Option.some.inj h; exact absurd ha List.not_mem_nil
  | cons x rest ih =>
    cases x with
    | none => exact absurd h.symm (Option.some_ne_none as)
    | some b =>
      unfold allSome at h
      split at h
      · exact absurd h.symm (Option.some_ne_none as)
      · rename_i bs hbs
        obtain rfl := Option.some.inj h
        rcases List.mem_cons.1 ha with rfl | ha
        · exact List.mem_cons_self ..
        · exact List.mem_cons_of_mem _ (ih hbs ha)

theorem sound_parsed {entries : List PortMapEntry} (h : f.parsed .portMap parsePortMap = some entries) :
    ∀ e ∈ entries, e.Sound := by
  intro e he
  obtain ⟨k, -, hk⟩ := List.mem_map.1 (mem_of_allSome h he)
  exact sound_parsePortMap hk

theorem kept_storePortMap (entries : List PortMapEntry) (s : State) (i : Nat) (h : ∀ e ∈ entries, e.Sound) :
    State.Kept W s (s.storePortMap i entries) := by
  induction entries generalizing s i with
  | nil => exact .refl s
  | cons e rest ih =>
    unfold State.storePortMap
    split
    · refine .trans (kept_modPort_of_unit ⟨id, id, fun _ hp => ⟨h e (List.mem_cons_self ..), hp.xoff, hp.grant⟩⟩ rfl)
        (ih _ _ fun x hx => h x (List.mem_cons_of_mem _ hx))
    · exact .refl s

theorem kept_judgeWritePortMap (f : Fields) (s : State) : State.Kept W s (judgeWritePortMap f s).state := by
  unfold judgeWritePortMap
  split
  · exact .refl s
  · split
    · exact .refl s
    · split <;> rename_i h
      · exact .refl s
      · exact kept_storePortMap _ s _ (sound_parsed h)

/-! ### WRITE of the route tables and of MASKS (R53 to R55, R80, R183) -/

theorem quiet_storeDests (set : RouteSetId) (entries : List DestContents) (s : State) (i : Nat) :
    Quiet s (s.storeDests set i entries) := by
  induction entries generalizing s i with
  | nil => exact .refl s
  | cons e rest ih =>
    unfold State.storeDests
    split
    · exact (quiet_modRoutes ..).trans (ih ..)
    · exact .refl s

theorem quiet_storeGroups (set : RouteSetId) (entries : List GroupContents) (s : State) (i : Nat) :
    Quiet s (s.storeGroups set i entries) := by
  induction entries generalizing s i with
  | nil => exact .refl s
  | cons e rest ih =>
    unfold State.storeGroups
    split
    · exact (quiet_modRoutes ..).trans (ih ..)
    · exact .refl s

theorem quiet_judgeRouteContents (f : Fields) (s : State) (o : Object) : Quiet s (judgeRouteContents f s o).state := by
  unfold judgeRouteContents
  cases o with
  | dest set =>
    dsimp only
    split
    · exact .refl s
    · exact quiet_storeDests ..
  | group set =>
    dsimp only
    split
    · exact .refl s
    · exact quiet_storeGroups ..
  | _ => exact .refl s

theorem quiet_judgeWriteStage (f : Fields) (s : State) : Quiet s (judgeWriteStage f s).state := by
  unfold judgeWriteStage
  split
  · exact .refl s
  · split
    · exact .refl s
    · split
      · exact quiet_latch ..
      · exact quiet_judgeRouteContents ..

theorem quiet_judgeWriteActive (f : Fields) (s : State) : Quiet s (judgeWriteActive f s).state := by
  unfold judgeWriteActive
  split
  · exact .refl s
  · split
    · exact .refl s
    · split
      · exact .refl s
      · exact quiet_judgeRouteContents ..

theorem quiet_judgeWriteMasks (f : Fields) (s : State) : Quiet s (judgeWriteMasks f s).state := by
  unfold judgeWriteMasks
  split
  · exact .refl s
  · exact .of_ports rfl rfl rfl

/-! ### Commands without objects (R25, R37, R38, R45, R71, R81, R160, R168) -/

theorem quiet_startCommit (s : State) (r : CommitRequest) : Quiet s (s.startCommit r) := quiet_modCommit ..

theorem quiet_judgeCommit (f : Fields) (s : State) : Quiet s (judgeCommit f s).state := by
  unfold judgeCommit
  split_ifs
  · exact .refl s
  · exact quiet_startCommit s _
  · exact .refl s

theorem quiet_judgeCommitNow (f : Fields) (s : State) : Quiet s (judgeCommitNow f s).state := by
  unfold judgeCommitNow
  split_ifs
  · exact .refl s
  · exact quiet_startCommit s _

theorem quiet_judgeCancelCommit (f : Fields) (s : State) : Quiet s (judgeCancelCommit f s).state := by
  unfold judgeCancelCommit
  split
  · exact .refl s
  · exact quiet_endCommit s _ .cancelled s.epoch.count

theorem quiet_judgeSetEpoch (f : Fields) (s : State) : Quiet s (judgeSetEpoch f s).state := .of_ports rfl rfl rfl

/-- R195: a link may leave OFF while the loader does not work. -/
theorem kept_judgeLinkEnable (f : Fields) (s : State) : State.Kept True s (judgeLinkEnable f s).state := by
  unfold judgeLinkEnable
  split
  · exact .refl s
  · split <;> rename_i h
    · exact kept_modPort (kept_toBlank _ (.inl h)) fun _ => .inr trivial
    · exact .refl s

theorem kept_judgeLinkTest (f : Fields) (s : State) : State.Kept True s (judgeLinkTest f s).state := by
  unfold judgeLinkTest
  split
  · exact .refl s
  · split <;> rename_i h
    · exact kept_modPort (kept_toTest h.1) fun _ => .inr trivial
    · exact .refl s

theorem kept_judgeLinkDisableNow (f : Fields) (s : State) : State.Kept W s (judgeLinkDisableNow f s).state := by
  unfold judgeLinkDisableNow
  split
  · exact .refl s
  · split
    · exact kept_disableNow ..
    · exact .refl s

theorem kept_judgeLinkDisableDrain (f : Fields) (s : State) : State.Kept W s (judgeLinkDisableDrain f s).state := by
  unfold judgeLinkDisableDrain
  split
  · exact .refl s
  · exact kept_disableDrain ..

theorem kept_judgeCloseConfig (f : Fields) (s : State) : State.Kept W s (judgeCloseConfig f s).state := by
  unfold judgeCloseConfig
  split
  · exact kept_agent_of_requests rfl rfl
  · exact .refl s

/-! ### Service (R166, R167) -/

theorem kept_placeControl {x : ControlCell} (h : (s.port l).takesControl = true) : State.Kept W s (s.placeControl l x) := by
  obtain ⟨hs, hlen⟩ := (takesControl_iff _).1 h
  refine kept_modPort_of_unit (kept_control (fun _ => ?_) (.inl hs)) rfl
  rw [List.length_append, List.length_singleton]
  exact hlen

theorem kept_respond (s : State) (r : Request) (status : Status) (data : List Byte) :
    State.Kept W s (s.respond r status data) := by
  unfold State.respond
  split <;> rename_i h
  · exact kept_placeControl h
  · exact (quiet_countElement ..).kept

theorem kept_dropRequest {r : Request} {rest : List Request} (h : s.agent.requests = r :: rest) :
    State.Kept W s (s.dropRequest rest) := by
  refine kept_agent rfl fun ⟨hwork, _, hlen, _⟩ => ⟨fun hw => ?_, ?_⟩
  · exact absurd (h.symm.trans (hwork hw).2) (List.cons_ne_nil _ _)
  · rw [h, List.length_cons] at hlen
    exact Nat.le_of_succ_le hlen

/-- While a request waits the loader does not work (R195). -/
theorem State.Kept.serving (h : State.Kept True s t) (hr : s.agent.requests ≠ []) : State.Kept W s t where
  working := h.working
  service _ hs := h.service (fun _ hw => hr (hs.noRequests hw)) hs
  links _ hs := h.links (fun _ hw => hr (hs.noRequests hw)) hs
  config := h.config

theorem kept_serve {kind : ServiceKind} {judge : Fields → State → Served}
    (h : ∀ f u, State.Kept True u (judge f u).state) (s : State) : State.Kept W s (serve kind judge s) := by
  unfold serve
  split
  · exact .refl s
  · rename_i r rest hr
    split
    · exact .serving ((kept_dropRequest hr).trans ((h ..).trans (kept_respond ..))) (hr ▸ List.cons_ne_nil r rest)
    · exact .refl s

/-! ### SOFT_RESET (R179) -/

theorem kept_stateSoftReset (hr : s.ServiceSound → ¬s.boot.working) : State.Kept W s s.softReset := by
  have ports (l : LinkId) : s.softReset.port l = (s.port l).softReset s.blankDuration (s.param (.weight .one)) :=
    port_mapPorts ..
  have kept (l : LinkId) : Port.Kept s.agent.params (s.port l) (s.softReset.port l) := by
    rw [ports]; exact kept_softReset _
  refine ⟨id, fun _ hs => ?_, fun _ _ hl l => (kept l).unit (hl l), fun hc => ?_⟩
  · refine ⟨fun hw => absurd hw (hr hs), hs.works, Nat.zero_le 8, fun l => (kept l).service (hs.port l)⟩
  · obtain ⟨hk, hports⟩ := configSound_iff.1 hc
    exact configSound_iff.2 ⟨hk, fun l => (kept l).config hk (hports l)⟩

theorem kept_serveSoftReset (s : State) : State.Kept W s s.serveSoftReset := by
  unfold State.serveSoftReset
  split
  · exact .refl s
  · rename_i r rest hr
    split
    · exact kept_stateSoftReset fun ⟨hwork, _⟩ hw => List.cons_ne_nil r rest (hr.symm.trans (hwork hw).2)
    · exact .refl s

/-! ### Notices (R185) -/

theorem quiet_notice (s : State) (n : NoticeUnit) : Quiet s { s with notice := n } := .of_ports rfl rfl rfl

theorem kept_offerNotice (s : State) (e : Half) : State.Kept W s (s.offerNotice e) := by
  unfold State.offerNotice
  split
  · exact .refl s
  · split <;> rename_i h
    · exact (kept_placeControl (Bool.and_eq_true_iff.1 h).2).trans (quiet_notice ..).kept
    · exact .refl s

theorem kept_noticeBoundary (s : State) : State.Kept W s s.noticeBoundary := by
  unfold State.noticeBoundary
  split
  · exact .refl s
  · exact (quiet_notice s _).kept.trans (kept_offerNotice ..)

end Sys2Proof.Machine
end

section
/-! SUPPORT. What the boot loader and the resets keep of the invariants of the service, the configuration and the links
(spec/11_boot_and_reset.md, R191 to R197). -/

namespace Sys2Proof.Machine

variable {W : Prop} {s t u : State} {l : LinkId} {f : Fields}

/-! ### The loader (R194 to R196) -/

theorem not_working {b : BootLoader} (h : b.state = .done ∨ b.state = .doneDefault) : ¬b.working := by
  unfold BootLoader.working
  rcases h with h | h <;> simp [h]

theorem kept_modBoot {g : BootLoader → BootLoader} (hw : (g s.boot).working → s.boot.working)
    (hbus : s.ServiceSound → (g s.boot).bus ≠ .idle → (g s.boot).working) : State.Kept W s (s.modBoot g) where
  working := hw
  service := fun _ hs@⟨hwork, _, rest⟩ => ⟨hwork ∘ hw, hbus hs, rest⟩
  links _ _ := id
  config := id

theorem kept_modBoot_of_same {g : BootLoader → BootLoader} (hs : (g s.boot).state = s.boot.state)
    (hb : (g s.boot).bus = s.boot.bus) : State.Kept W s (s.modBoot g) := by
  have working : (g s.boot).working ↔ s.boot.working := by unfold BootLoader.working; rw [hs]
  exact kept_modBoot working.1 fun h hbus => working.2 (h.works (hb ▸ hbus))

/-- The loader has ended its work, and links that it has kept in OFF enter BLANK (R192, R195). -/
theorem State.Kept.ended (h : State.Kept W s t) (hn : ¬t.boot.working) (hu : ∀ l, (t.port l).unit = (s.port l).unit)
    (hw : s.ServiceSound → s.boot.working) {g : Port → Port}
    (hg : ∀ p : Port, p.unit.state = .off → Port.Kept t.agent.params p (g p))
    (hc : ∀ p : Port, p.ConfigSound t.agent.params → (g p).ConfigSound t.agent.params) : State.Kept W s (t.mapPorts g) where
  working hw' := absurd hw' hn
  service hW hs := by
    obtain ⟨-, hbus, hlen, hports⟩ := h.service hW hs
    refine ⟨fun hw' => absurd hw' hn, hbus, hlen, fun l => ?_⟩
    rw [port_mapPorts]
    exact (hg _ (by rw [hu]; exact hs.off (hw hs) l)).service (hports l)
  links hW hs hl l := by
    rw [port_mapPorts]
    exact (hg _ (by rw [hu]; exact hs.off (hw hs) l)).unit (h.links hW hs hl l)
  config hs := by
    obtain ⟨hk, hports⟩ := configSound_iff.1 (h.config hs)
    refine configSound_iff.2 ⟨hk, fun l => ?_⟩
    rw [port_mapPorts]
    exact hc _ (hports l)

theorem configSound_toBlank {p : Port} {k : Params} (hp : p.ConfigSound k) (d : Nat) : (p.toBlank d).ConfigSound k :=
  ⟨hp.map, hp.xoff, hp.grant⟩

/-! ### The failure of a boot (R192, R197) -/

theorem sound_portMapReset : PortMapEntry.reset.Sound := by
  unfold PortMapEntry.Sound
  decide

/-- The changes of pass two withdrawn, before the flags that follow from them are evaluated anew. -/
def State.withdrawn (s : State) : State :=
  { s.mapPorts Port.withdraw with
    routes := RouteStore.reset
    agent := { s.agent with phase := .config, params := Params.reset }
    notice := { s.notice with elementMasks := 0, linkMasks := 0 }
    epoch := s.epoch.sourceWritten 0 }

theorem withdraw_eq (s : State) : s.withdraw = (allClasses.foldl State.xoffReevaluateClass s.withdrawn).evalCongestion := rfl

theorem withdrawn_port (s : State) (l : LinkId) : s.withdrawn.port l = (s.port l).withdraw := port_mapPorts ..

theorem withdraw_unit (s : State) (l : LinkId) : (s.withdraw.port l).unit = (s.port l).unit := by
  rw [withdraw_eq, ((quiet_foldl_xoffReevaluateClass allClasses s.withdrawn).trans (quiet_evalCongestion _)).unit, port_mapPorts,
    (xoffMoved_reevaluate ..).unit, withdrawn_port]
  rfl

theorem kept_withdraw (s : State) : State.Kept W s s.withdraw := by
  have withdrawn : State.Kept W s (allClasses.foldl State.xoffReevaluateClass s.withdrawn) := by
    refine kept_reconfigure rfl rfl (fun l => ?_) (fun _ => ⟨paramsSound_reset, fun l => ?_⟩) fun d hd => ?_
    · rw [withdrawn_port]; exact ⟨rfl, rfl, rfl, rfl⟩
    · rw [withdrawn_port]; exact sound_portMapReset
    · exact absurd (mem_allClasses d) hd
  exact withdrawn.trans (quiet_evalCongestion _).kept

theorem withdraw_boot (s : State) : s.withdraw.boot = s.boot := by
  rw [withdraw_eq, ((quiet_foldl_xoffReevaluateClass allClasses s.withdrawn).trans (quiet_evalCongestion _)).boot]
  rfl

theorem kept_bootFailure (cause : BootCause) (hw : s.ServiceSound → s.boot.working) :
    State.Kept W s (s.bootFailure cause) := by
  unfold State.bootFailure State.enableAll
  have failed : State.Kept W s ((s.latch .bootFail).modBoot fun b =>
      { b with cause := cause, failInApply := b.state == .applying, state := .doneDefault, image := [], bus := .idle }) :=
    (quiet_latch s .bootFail).kept.trans (kept_modBoot (fun h => absurd h (not_working (.inr rfl))) fun _ h => absurd rfl h)
  refine (failed.trans (kept_withdraw _)).ended ?_ (fun l => ?_) hw (fun p ho => kept_toBlank _ (.inl ho)) fun p hp =>
    configSound_toBlank hp _
  · rw [withdraw_boot]; exact not_working (.inr rfl)
  · rw [withdraw_unit]; rfl

/-! ### The end of a boot (R195) -/

theorem kept_stateBootDone (hw : s.ServiceSound → s.boot.working) : State.Kept W s s.bootDone := by
  have ended : State.Kept W s (s.modBoot fun b => { b with state := .done, image := [], bus := .idle }) :=
    kept_modBoot (fun h => absurd h (not_working (.inl rfl))) fun _ h => absurd rfl h
  refine ended.ended (not_working (.inl rfl)) (fun l => rfl) hw (fun p ho => ?_) fun p hp => ?_ <;> unfold Port.bootDone <;> split
  · exact (kept_toBlank _ (.inl ho)).trans (Port.Alike.kept ⟨rfl, rfl, rfl, rfl⟩)
  · exact (Port.Alike.refl p).kept
  · exact ⟨hp.map, hp.xoff, hp.grant⟩
  · exact hp

/-! ### Records (R195) -/

theorem kept_judgeWrite (f : Fields) (s : State) : State.Kept W s (judgeWrite f s).state := by
  unfold judgeWrite
  split
  · exact kept_judgeWriteConfig f s
  · exact kept_judgeWritePortMap f s
  · exact (quiet_judgeWriteStage f s).kept
  · exact (quiet_judgeWriteActive f s).kept
  · exact (quiet_judgeWriteMasks f s).kept
  all_goals exact (quiet_judgeWriteOther f s).kept

theorem quiet_mark (s : State) (l : LinkId) (b : Bool) : Quiet s (s.modPort l fun p => { p with enableMark := b }) :=
  .modPort ⟨rfl, rfl, rfl, rfl⟩

theorem quiet_judgeEnableRecord (f : Fields) (s : State) : Quiet s (judgeEnableRecord f s).state := by
  unfold judgeEnableRecord
  split
  · exact .refl s
  · split
    · exact .refl s
    · exact quiet_mark s _ _

theorem quiet_judgeDisableRecord (f : Fields) (s : State) : Quiet s (judgeDisableRecord f s).state := by
  unfold judgeDisableRecord
  split
  · exact .refl s
  · split
    · exact quiet_mark s _ _
    · exact .refl s

theorem kept_judgeRecord (f : Fields) (s : State) : State.Kept W s (judgeRecord f s).state := by
  unfold judgeRecord
  split
  · exact kept_judgeWrite f s
  · exact (quiet_judgeEnableRecord f s).kept
  · exact (quiet_judgeDisableRecord f s).kept
  · exact kept_judgeCloseConfig f s
  all_goals exact .refl s

theorem applyConfig_boot (s : State) (f : Fields) (q : Params) : (s.applyConfig f q).boot = s.boot := by
  unfold State.applyConfig
  rw [((quiet_congestionWritten _ f).trans (quiet_epochWritten _ f)).boot, xoffWritten_eq, (quiet_foldl_xoffReevaluateClass ..).boot]
  rfl

theorem judgeWriteConfig_boot (f : Fields) (s : State) : (judgeWriteConfig f s).state.boot = s.boot := by
  unfold judgeWriteConfig
  split
  · rfl
  · split
    · rfl
    · split
      · rfl
      · split
        · exact applyConfig_boot ..
        · rfl

theorem judgeWritePortMap_boot (f : Fields) (s : State) : (judgeWritePortMap f s).state.boot = s.boot := by
  unfold judgeWritePortMap
  split
  · rfl
  · split
    · rfl
    · split
      · rfl
      · show (s.storePortMap _ _).boot = s.boot
        rw [storePortMap_frame]

/-- A record does not move the loader: what it has come to is counted after it. -/
theorem judgeRecord_boot (f : Fields) (s : State) : (judgeRecord f s).state.boot = s.boot := by
  unfold judgeRecord
  split
  · unfold judgeWrite
    split
    · exact judgeWriteConfig_boot f s
    · exact judgeWritePortMap_boot f s
    · exact (quiet_judgeWriteStage f s).boot
    · exact (quiet_judgeWriteActive f s).boot
    · exact (quiet_judgeWriteMasks f s).boot
    all_goals exact (quiet_judgeWriteOther f s).boot
  · exact (quiet_judgeEnableRecord f s).boot
  · exact (quiet_judgeDisableRecord f s).boot
  · unfold judgeCloseConfig
    split <;> rfl
  all_goals rfl

theorem kept_countRecord (s : State) (status : Status) : State.Kept W s (s.countRecord status) := by
  unfold State.countRecord
  split
  · exact kept_modBoot_of_same rfl rfl
  · exact (kept_modBoot_of_same (s := s) rfl rfl).trans (quiet_latch ..).kept

theorem countRecord_bootState (s : State) (status : Status) : (s.countRecord status).boot.state = s.boot.state := by
  unfold State.countRecord
  split <;> rfl

theorem kept_applyRecord (s : State) (f : Fields) (len : Nat) : State.Kept W s (s.applyRecord f len) :=
  (kept_judgeRecord f s).trans ((kept_modBoot_of_same rfl rfl).trans (kept_countRecord ..))

theorem applyRecord_bootState (s : State) (f : Fields) (len : Nat) : (s.applyRecord f len).boot.state = s.boot.state := by
  unfold State.applyRecord
  dsimp only
  rw [countRecord_bootState, modBoot_boot, judgeRecord_boot]

theorem kept_applyRecords (n : Nat) (s : State) (hs : s.boot.state = .applying) : State.Kept W s (State.applyRecords n s) := by
  induction n generalizing s with
  | zero => exact .refl s
  | succ n ih =>
    have working : s.ServiceSound → s.boot.working := fun _ => .inr hs
    unfold State.applyRecords
    split
    · exact kept_stateBootDone working
    · dsimp only
      split
      · exact kept_bootFailure _ working
      · split
        · exact .refl s
        · split
          · exact kept_bootFailure _ working
          · split
            · exact kept_bootFailure _ working
            · split
              · exact .refl s
              · exact (kept_applyRecord ..).trans (ih _ ((applyRecord_bootState ..).trans hs))

/-! ### Passes and transfers (R194, R196) -/

theorem kept_passOne (hs : s.boot.state = .checking) : State.Kept W s s.passOne := by
  have working : s.ServiceSound → s.boot.working := fun _ => .inl hs
  unfold State.passOne
  dsimp only
  split_ifs
  · exact .refl s
  · exact kept_bootFailure _ working
  · exact .refl s
  · exact kept_bootFailure _ working
  · exact kept_bootFailure _ working
  · exact kept_modBoot (fun _ => .inl hs) fun _ _ => .inr rfl

theorem kept_takeBytes (s : State) (bytes : List Byte) : State.Kept W s (s.takeBytes bytes) := by
  have taken : State.Kept W s (s.modBoot fun b => { b with image := b.image ++ bytes, arbRun := 0 }) :=
    kept_modBoot_of_same rfl rfl
  unfold State.takeBytes
  dsimp only
  split <;> rename_i h
  · exact taken.trans (kept_passOne h)
  · exact taken.trans (kept_applyRecords _ _ h)
  · exact .refl s
  · exact .refl s

theorem kept_loseArbitration (hb : s.boot.bus ≠ .idle) : State.Kept W s s.loseArbitration := by
  have waiting : State.Kept W s (s.modBoot fun b => { b with arbRun := b.arbRun + 1, bus := .waiting }) :=
    kept_modBoot id fun hs _ => hs.works hb
  unfold State.loseArbitration
  dsimp only
  split
  · exact waiting.trans (kept_bootFailure _ fun hs => hs.works fun h => Bus.noConfusion h)
  · exact waiting

theorem kept_endTransfer (s : State) (r : BusResult) : State.Kept W s (s.endTransfer r) := by
  unfold State.endTransfer
  split <;> rename_i h
  · have busy : s.boot.bus ≠ .idle := by rw [h.1]; decide
    cases r with
    | success bytes => exact kept_takeBytes s bytes
    | noAck => exact kept_bootFailure _ fun hs => hs.works busy
    | arbitrationLost => exact kept_loseArbitration busy
  · exact .refl s

theorem kept_repeatTransfer (s : State) : State.Kept W s (s.modBoot BootLoader.repeatTransfer) := by
  unfold BootLoader.repeatTransfer
  refine kept_modBoot (fun hw => ?_) fun hs hb => ?_
  · split at hw <;> exact hw
  · split at hb <;> rename_i h
    · rw [if_pos h]
      exact hs.works (by rw [h]; decide)
    · rw [if_neg h]
      exact hs.works hb

/-! ### RESET_N (R191) -/

theorem kept_holdReset (s : State) : State.Kept W s s.holdReset where
  working := id
  service := fun _ ⟨hwork, _, rest⟩ => ⟨hwork, fun h => absurd rfl h, rest⟩
  links _ _ := id
  config := id

theorem serviceSound_reset : Port.reset.ServiceSound := serviceSound_out rfl rfl rfl fun h => absurd h (Nat.lt_irrefl 0)

theorem linkSound_reset : LinkUnit.reset.Sound := by
  unfold LinkUnit.Sound
  decide

theorem configSound_reset : Port.reset.ConfigSound Params.reset :=
  ⟨sound_portMapReset, fun _ => xoffAgrees_emptied paramsSound_reset (Vector.getElem_replicate ..) (Vector.getElem_replicate ..),
    by decide⟩

theorem kept_elementReset (s : State) (bootSel : Bool) (id : BitVec 6) (l : LinkId) :
    Port.Kept Params.reset Port.reset ((s.elementReset bootSel id).port l) := by
  have reset : Port.reset.Alike (s.port l).elementReset := ⟨rfl, rfl, rfl, rfl⟩
  rw [elementReset_port]
  split
  · exact reset.kept
  · exact reset.kept.trans (kept_toBlank 256 (.inl rfl))

theorem serviceSound_elementReset (s : State) (bootSel : Bool) (id : BitVec 6) : (s.elementReset bootSel id).ServiceSound := by
  refine ⟨fun hw => ⟨fun l => ?_, ?_⟩, fun hb => ?_, ?_, fun l => (kept_elementReset s bootSel id l).service serviceSound_reset⟩ <;>
    cases bootSel
  · exact absurd hw (not_working (.inr rfl))
  · rw [elementReset_port]; rfl
  · rfl
  · rfl
  · exact absurd rfl hb
  · exact .inl rfl
  · exact Nat.zero_le 8
  · exact Nat.zero_le 8

theorem linksSound_elementReset (s : State) (bootSel : Bool) (id : BitVec 6) : (s.elementReset bootSel id).LinksSound :=
  fun l => (kept_elementReset s bootSel id l).unit linkSound_reset

theorem configSound_elementReset (s : State) (bootSel : Bool) (id : BitVec 6) : (s.elementReset bootSel id).ConfigSound := by
  have params : (s.elementReset bootSel id).agent.params = Params.reset := by cases bootSel <;> rfl
  refine configSound_iff.2 ⟨params ▸ paramsSound_reset, fun l => ?_⟩
  rw [params]
  exact (kept_elementReset s bootSel id l).config paramsSound_reset configSound_reset

end Sys2Proof.Machine
end

section
/-! SUPPORT. Every step keeps the invariants of the service, the configuration and the links (Sys2Proof/Safety.lean). -/

namespace Sys2Proof.Machine

variable {W : Prop} {s t u : State} {l : LinkId}

/-! ### Commands -/

/-- A command's step keeps the invariants. -/
def Keeps (c : State → Host.Outcome State Fault Refusal) : Prop := ∀ s t, c s = .next t → State.Kept False s t

theorem keeps_next {g : State → State} (h : ∀ s, State.Kept False s (g s)) : Keeps fun s => .next (g s) := by
  rintro s t e
  obtain rfl := Host.Outcome.next.inj e
  exact h s

theorem keeps_act {g : State → State} (h : ∀ s, State.Kept False s (g s)) : Keeps (act g) := by
  refine keeps_next fun s => ?_
  split
  · exact .refl s
  · exact h s

theorem keeps_modUnit {g : State → LinkUnit → LinkUnit} (h : ∀ s u, LinkUnit.Kept u (g s u)) :
    Keeps (act fun s => s.modUnit l (g s)) := keeps_act fun s => kept_modUnit (h s _)

theorem keeps_serve {kind : ServiceKind} {judge : Fields → State → Served}
    (h : ∀ f u, State.Kept True u (judge f u).state) : Keeps (act (serve kind judge)) := keeps_act (kept_serve h)

theorem keeps_quiet {g : State → State} (h : ∀ s, Quiet s (g s)) : Keeps (act g) := keeps_act fun s => (h s).kept

/-! ### Received cells -/

/-- A received cell of the row's kind, by the state of its link. -/
theorem keeps_receive {b : Bool} {onTest onQualify onService : State → State}
    (ht : ∀ s, (s.port l).unit.state = .test → State.Kept False s (onTest s)) (hq : ∀ s, State.Kept False s (onQualify s))
    (hs : ∀ s, (s.port l).unit.state.inService = true → State.Kept False s (onService s)) :
    Keeps (act fun s => if b then s.receive l onTest onQualify onService else s) := by
  refine keeps_act fun s => ?_
  split
  · exact kept_receive (ht s) (hq _) fun h => hs _ (by rw [(quiet_countLink ..).unit]; exact h)
  · exact .refl s

theorem kept_takeDataU (s : State) (l : LinkId) (cell : Cell) : State.Kept W s (s.takeDataU l cell) := by
  unfold State.takeDataU
  split
  · exact kept_resolveUnicast ..
  · exact (quiet_countLink ..).kept

theorem kept_takeDataM (s : State) (l : LinkId) (cell : Cell) : State.Kept W s (s.takeDataM l cell) := by
  unfold State.takeDataM
  split
  · exact kept_resolveMulticast ..
  · exact (quiet_countLink ..).kept

theorem State.Kept.report (h : State.Kept W s t) (l : LinkId) (r : Report) : State.Kept W s (t.report l r) :=
  h.trans (kept_report ..)

theorem ne_off_of_inService {x : LinkState} (h : x.inService = true) : x ≠ .off := by
  rintro rfl
  exact Bool.false_ne_true h

theorem kept_takeDamaged (s : State) (l : LinkId) : State.Kept W s (s.takeDamaged l) := (quiet_countLink ..).kept.report ..

theorem kept_takeUnknown (s : State) (l : LinkId) : State.Kept W s (s.takeUnknown l) := (quiet_countLink ..).kept.report ..

/-! ### The transmitters and the pin, also in reset (R158, R191) -/

theorem keeps_transmitReady (l : LinkId) : Keeps (execTransmitReady l) := by
  refine keeps_next fun s => ?_
  split
  · exact (quiet_hand ..).kept
  · exact kept_ready s l

theorem keeps_epochInRisingEdge (elapsed : Nat) : Keeps (execEpochInRisingEdge elapsed) := by
  refine keeps_next fun s => ?_
  split
  · exact (quiet_modEpoch ..).kept
  · exact (quiet_pinRises ..).kept

/-! ### Every command but ELEMENT_RESET -/

theorem keeps_exec (i : Instr) (h : ∀ bootSel id, i ≠ .elementReset bootSel id) : Keeps (exec i) := by
  cases i with
  | elementReset bootSel id => exact absurd rfl (h bootSel id)
  | resetNLow => exact keeps_next kept_holdReset
  | signalLost l => exact keeps_modUnit fun s u => (kept_conditions u false false).trans (kept_loseLock _ _)
  | signalRestored l => exact keeps_modUnit fun s u => (kept_conditions u true u.aligned).regain
  | alignmentGained l => exact keeps_modUnit fun s u => (kept_conditions u u.signal true).regain
  | alignmentLost l => exact keeps_modUnit fun s u => (kept_conditions u u.signal false).trans (kept_loseLock _ _)
  | dataUReceived l cell =>
    exact keeps_receive (fun s _ => .refl s) (kept_notUp · l) fun s _ => (kept_takeDataU s l cell).report ..
  | dataMReceived l cell =>
    exact keeps_receive (fun s _ => .refl s) (kept_notUp · l) fun s _ => (kept_takeDataM s l cell).report ..
  | flowReceived l cell =>
    exact keeps_receive (fun s _ => .refl s) (kept_notUp · l) fun s _ => kept_checked ((quiet_takeFlow s l cell).kept.report ..)
  | mgmtReceived l cell =>
    exact keeps_receive (fun s _ => .refl s) (kept_notUp · l) fun s hs =>
      kept_checked ((kept_takeMgmt cell (ne_off_of_inService hs)).report ..)
  | syncReceived l cell elapsed =>
    exact keeps_receive (fun s _ => .refl s) (kept_notUp · l) fun s _ => kept_checked ((quiet_takeSync s l _ elapsed).kept.report ..)
  | idleReceived l cell => exact keeps_receive (fun s _ => .refl s) (kept_takeIdle · l cell) fun s _ => kept_takeIdle s l cell
  | markerReceived l cell => exact keeps_receive (fun s _ => .refl s) (kept_report · l .marker) fun s _ => kept_report s l .marker
  | testReceived l cell =>
    exact keeps_receive (fun s h => kept_checkTestCell cell h) (kept_notUp · l) fun s _ => kept_report s l .other
  | damagedCellReceived l cell =>
    exact keeps_receive (fun s h => kept_checkDamaged h) (kept_takeDamaged · l) fun s _ => kept_takeDamaged s l
  | unknownTypeReceived l cell =>
    exact keeps_receive (fun s _ => .refl s) (kept_takeUnknown · l) fun s _ => kept_takeUnknown s l
  | storageUpset x => exact keeps_quiet (quiet_modRoutes · _)
  | blankTimerExpiry l => exact keeps_modUnit fun _ => kept_blankExpiry
  | lossTimerExpiry l => exact keeps_act (kept_lossExpiry · l)
  | gapTimerExpiry => exact keeps_quiet quiet_gapExpiry
  | timerBoundary => exact keeps_quiet quiet_timerBoundary
  | holdoverBoundary => exact keeps_quiet quiet_holdoverBoundary
  | epochInRisingEdge elapsed => exact keeps_epochInRisingEdge elapsed
  | epochInFallingEdge => exact keeps_next fun s => (quiet_modEpoch s _).kept
  | stuckTimerExpiry => exact keeps_quiet quiet_stuckExpiry
  | epochOutFall => exact keeps_quiet (quiet_modEpoch · _)
  | linkBoundaryWork l => exact keeps_act (kept_linkBoundary · l)
  | flapClear l => exact keeps_modUnit fun _ => kept_clearFlaps
  | drainLimit l => exact keeps_act (kept_drainAtLimit · l)
  | holdDownEnd l => exact keeps_act (kept_stateEndHoldDown · l)
  | commitBoundary => exact keeps_quiet quiet_commitBoundary
  | refresh => exact keeps_quiet quiet_refreshFlow
  | noticeBoundary => exact keeps_act kept_noticeBoundary
  | walkExamination => exact keeps_quiet quiet_walkOne
  | checkCompletion => exact keeps_quiet quiet_completeWalk
  | flushRemoval l => exact keeps_act (kept_flushOne · l)
  | flushCompletion l => exact keeps_act (kept_flushEnd · l)
  | transmitReady l => exact keeps_transmitReady l
  | read => exact keeps_serve fun f u => (quiet_judgeRead f u).kept
  | readClear => exact keeps_serve fun f u => (quiet_judgeReadClear f u).kept
  | write => exact keeps_serve fun f u => (quiet_judgeWriteOther f u).kept
  | writeConfig => exact keeps_serve kept_judgeWriteConfig
  | writePortMap => exact keeps_serve kept_judgeWritePortMap
  | writeStage => exact keeps_serve fun f u => (quiet_judgeWriteStage f u).kept
  | writeActive => exact keeps_serve fun f u => (quiet_judgeWriteActive f u).kept
  | writeMasks => exact keeps_serve fun f u => (quiet_judgeWriteMasks f u).kept
  | commit => exact keeps_serve fun f u => (quiet_judgeCommit f u).kept
  | commitNow => exact keeps_serve fun f u => (quiet_judgeCommitNow f u).kept
  | cancelCommit => exact keeps_serve fun f u => (quiet_judgeCancelCommit f u).kept
  | linkEnable => exact keeps_serve kept_judgeLinkEnable
  | linkDisableNow => exact keeps_serve kept_judgeLinkDisableNow
  | linkDisableDrain => exact keeps_serve kept_judgeLinkDisableDrain
  | linkTest => exact keeps_serve kept_judgeLinkTest
  | setEpoch => exact keeps_serve fun f u => (quiet_judgeSetEpoch f u).kept
  | closeConfig => exact keeps_serve kept_judgeCloseConfig
  | softReset => exact keeps_act kept_serveSoftReset
  | echo => exact keeps_serve fun f u => .refl u
  | unknownCommand => exact keeps_serve fun f u => .refl u
  | busTransferEnd r => exact keeps_act (kept_endTransfer · r)
  | transferRepeat => exact keeps_act kept_repeatTransfer

/-! ### Steps -/

theorem kept_stateTick (s : State) : State.Kept W s s.tick := by
  have port (l : LinkId) : s.tick.port l = { s.port l with
      unit := { (s.port l).unit with
        blankTimer := tickTimer (s.port l).unit.blankTimer, lossTimer := tickTimer (s.port l).unit.lossTimer } } :=
    port_mapPorts ..
  refine .of_ports rfl rfl (fun l => ?_) fun l ho => .inl ?_ <;> rw [port]
  · exact (kept_tick _).port
  · exact ho

theorem quiet_pending (s : State) (cs : List Instr) : Quiet s { s with pending := cs } := .of_ports rfl rfl rfl

/-- A step keeps the invariants, or is that of ELEMENT_RESET. -/
theorem kept_step (h : step s = .next t) :
    State.Kept False s t ∨ ∃ u bootSel id, t = State.elementReset u bootSel id := by
  have command (c : Instr) (u : State) (hc : exec c u = .next t) :
      State.Kept False u t ∨ ∃ u bootSel id, t = State.elementReset u bootSel id := by
    by_cases hr : ∃ bootSel id, c = .elementReset bootSel id
    · obtain ⟨bootSel, id, rfl⟩ := hr
      exact .inr ⟨u, bootSel, id, (Host.Outcome.next.inj hc).symm⟩
    · exact .inl (keeps_exec c (fun bootSel id e => hr ⟨bootSel, id, e⟩) u t hc)
  unfold step at h
  split at h
  · unfold idleStep at h
    split at h
    · exact .inl (keeps_next State.Kept.refl s t h)
    · split at h
      · exact command _ s h
      · exact .inl (keeps_next kept_stateTick s t h)
  · exact (command _ _ h).imp_left ((quiet_pending s _).kept.trans ·)

/-- Settles O55: every command by what it keeps of the service, ELEMENT_RESET by its reset values. -/
theorem stepsKeepTheServiceSound : Obligations.StepsKeepTheServiceSound := by
  intro s t hs h
  rcases kept_step h with k | ⟨u, bootSel, id, rfl⟩
  · exact k.service False.elim hs
  · exact serviceSound_elementReset u bootSel id

/-- Settles O56: every command by what it keeps of the configuration, ELEMENT_RESET by its reset values. -/
theorem stepsKeepTheConfigurationSound : Obligations.StepsKeepTheConfigurationSound := by
  intro s t hs h
  rcases kept_step h with k | ⟨u, bootSel, id, rfl⟩
  · exact k.config hs
  · exact configSound_elementReset u bootSel id

/-- Settles O58: every command by what it keeps of the links, ELEMENT_RESET by its reset values. -/
theorem stepsKeepTheLinksSound : Obligations.StepsKeepTheLinksSound := by
  intro s t hs hl h
  rcases kept_step h with k | ⟨u, bootSel, id, rfl⟩
  · exact k.links False.elim hs hl
  · exact linksSound_elementReset u bootSel id

end Sys2Proof.Machine
end

section
/-! SUPPORT. The route store (spec/03_route_sets_and_cell_resolution.md, R49, R52): its three sets, what it is to store one entry, and
storage upsets. -/

namespace Sys2Proof.Machine

variable {s : State} {r : RouteStore} {set other : RouteSetId} {d m : Dcn} {g n : GroupId}

/-! ### One set stored (R49) -/

@[simp] theorem get_put_self (r : RouteStore) (x : RouteSet) (set : RouteSetId) : (r.put x set).get set = x := by
  cases set <;> rfl

theorem get_put_ne (h : other ≠ set) (x : RouteSet) : (r.put x set).get other = r.get other := by
  cases set <;> cases other <;> simp_all [RouteStore.get, RouteStore.put]

/-- A set stored leaves the bad marks and the spray pointers, which are kept apart from the entries. -/
theorem put_apart (r : RouteStore) (x : RouteSet) (set : RouteSetId) :
    (r.put x set).destBad = r.destBad ∧ (r.put x set).groupBad = r.groupBad ∧ (r.put x set).pointer = r.pointer := by
  cases set <;> exact ⟨rfl, rfl, rfl⟩

/-! ### One entry stored -/

theorem getElem_set_fin {α : Type} {k : Nat} (v : Vector α k) (i j : Fin k) (x : α) :
    (v.set i x)[j] = if j = i then x else v[j] := by
  simp only [Fin.getElem_fin, Vector.getElem_set, Fin.ext_iff, eq_comm]

theorem get_putDest_self (r : RouteStore) (set : RouteSetId) (d : Dcn) (e : DestEntry) :
    (r.putDest set d e).get set = { r.get set with dest := (r.get set).dest.set d e } := get_put_self ..

theorem get_putGroup_self (r : RouteStore) (set : RouteSetId) (g : GroupId) (e : GroupEntry) :
    (r.putGroup set g e).get set = { r.get set with group := (r.get set).group.set g e } := get_put_self ..

theorem putDest_dest (r : RouteStore) (set : RouteSetId) (d m : Dcn) (e : DestEntry) :
    ((r.putDest set d e).get set).dest[m] = if m = d then e else (r.get set).dest[m] := by
  rw [get_putDest_self]; exact getElem_set_fin ..

theorem putGroup_group (r : RouteStore) (set : RouteSetId) (g n : GroupId) (e : GroupEntry) :
    ((r.putGroup set g e).get set).group[n] = if n = g then e else (r.get set).group[n] := by
  rw [get_putGroup_self]; exact getElem_set_fin ..

theorem putDest_group (r : RouteStore) (set : RouteSetId) (d : Dcn) (e : DestEntry) :
    ((r.putDest set d e).get set).group = (r.get set).group := by rw [get_putDest_self]

theorem putGroup_dest (r : RouteStore) (set : RouteSetId) (g : GroupId) (e : GroupEntry) :
    ((r.putGroup set g e).get set).dest = (r.get set).dest := by rw [get_putGroup_self]

/-! ### Storage upsets (R52) -/

theorem exec_storageUpset (hr : s.inReset = false) (x : Upset) :
    exec (.storageUpset x) s = .next { s with routes := s.routes.upset x } := (act_run _ hr : execStorageUpset x s = _)

/-- Settles O19: the entry that the upset falls on is stored with its check failing. -/
theorem storageUpsets : Obligations.StorageUpsets := by
  refine ⟨fun r => ⟨rfl, rfl, rfl⟩, fun s f => rfl, fun s hr => ⟨fun set d x => ?_, fun set g x => ?_⟩⟩
  · exact ⟨_, exec_storageUpset hr _, (putDest_dest ..).trans (if_pos rfl), fun m hm => (putDest_dest ..).trans (if_neg hm),
      putDest_group .., fun other h => get_put_ne h _, put_apart ..⟩
  · exact ⟨_, exec_storageUpset hr _, (putGroup_group ..).trans (if_pos rfl), fun m hm => (putGroup_group ..).trans (if_neg hm),
      putGroup_dest .., fun other h => get_put_ne h _, put_apart ..⟩

end Sys2Proof.Machine
end

section
/-! SUPPORT. The search for a live member (spec/03_route_sets_and_cell_resolution.md, R57, R61) and the members of a Group entry
(R65). -/

namespace Sys2Proof.Machine

variable {s : State} {d : Dcn} {l : LinkId} {e : DestContents}

/-! ### The members of a Destination entry (R49, R50) -/

theorem DestPossible.count_bounds (h : DestPossible e) (hv : e.valid = true) : 1 ≤ e.count.toNat ∧ e.count.toNat ≤ 4 := by
  rw [DestPossible, if_pos hv] at h
  exact ⟨h.1, h.2.1⟩

theorem memberLink_eq_some {i : Nat} (hi : i < 4) :
    memberLink e i = some l ↔ e.members.toList[i]? = some (BitVec.ofNat 8 l.val) := by
  have hlen : i < e.members.toList.length := by rwa [Vector.length_toList]
  rw [memberLink, linkOfByte_eq_some, byteAt_of_lt hlen, List.getElem?_eq_getElem hlen, Option.some_inj]

/-- The place i of the member list names a link in UP. -/
def State.memberLive (s : State) (e : DestContents) (i : Nat) : Bool := (memberLink e i).any s.isUp

theorem memberLive_iff {i : Nat} : s.memberLive e i = true ↔ ∃ l, memberLink e i = some l ∧ (s.port l).unit.state = .up := by
  simp only [State.memberLive, Option.any_eq_true, isUp_iff]

theorem memberLive_eq_false {i : Nat} (hi : i < 4)
    (h : ∀ m, e.members.toList[i]? = some (BitVec.ofNat 8 m) → ∀ hm : m < 64, (s.port ⟨m, hm⟩).unit.state ≠ .up) :
    s.memberLive e i = false := by
  rw [Bool.eq_false_iff, Ne, memberLive_iff]
  rintro ⟨l, hl, hup⟩
  exact h l.val ((memberLink_eq_some hi).1 hl) l.isLt hup

/-! ### The search (R57, R61) -/

/-- The search takes the first live place in the order of the search. -/
theorem liveIndex_eq (s : State) (d : Dcn) : s.liveIndex d =
    (List.find? (fun k => s.memberLive s.routes.active.dest[d].contents
      ((s.routes.pointer[d].val + k) % s.routes.active.dest[d].contents.count.toNat))
      (List.range s.routes.active.dest[d].contents.count.toNat)).map
      fun k => (s.routes.pointer[d].val + k) % s.routes.active.dest[d].contents.count.toNat := List.find?_map ..

section
variable {n p k : Nat} (hn : n = s.routes.active.dest[d].contents.count.toNat)
include hn

theorem liveIndex_eq_some (hp : p = s.routes.pointer[d].val) (hk : k < n)
    (hlive : s.memberLive s.routes.active.dest[d].contents ((p + k) % n) = true)
    (hnearer : ∀ j, j < k → s.memberLive s.routes.active.dest[d].contents ((p + j) % n) = false) :
    s.liveIndex d = some ((p + k) % n) := by
  subst hn hp
  rw [liveIndex_eq, Option.map_eq_some_iff]
  exact ⟨k, List.find?_range_eq_some.2 ⟨hlive, List.mem_range.2 hk, fun j hj => by rw [hnearer j hj]; rfl⟩, rfl⟩

theorem liveIndex_eq_none (h : ∀ i, i < n → s.memberLive s.routes.active.dest[d].contents i = false) : s.liveIndex d = none := by
  subst hn
  rw [liveIndex_eq, Option.map_eq_none_iff, List.find?_eq_none]
  intro k hk
  rw [h _ (Nat.mod_lt _ (Nat.zero_lt_of_lt (List.mem_range.1 hk)))]
  exact Bool.false_ne_true

end

theorem advancePointer_of_some {i : Nat} (h : s.liveIndex d = some i) : s.advancePointer d =
    { s with routes := { s.routes with
      pointer := s.routes.pointer.set d (Fin.ofNat 4 ((i + 1) % s.routes.active.dest[d].contents.count.toNat)) } } := by
  simp only [State.advancePointer, h]
  rfl

theorem advancePointer_of_none (h : s.liveIndex d = none) : s.advancePointer d = s := by
  simp only [State.advancePointer, h]

/-- Settles O16: the live place that the search takes, or that there is none. -/
theorem searchForLiveMember : Obligations.SearchForLiveMember := by
  intro s d n p hn hp hposs hv
  obtain ⟨hpos, hle⟩ := hn ▸ hposs.count_bounds hv
  have place (i : Nat) : (p + i) % n < 4 := lt_of_lt_of_le (Nat.mod_lt _ hpos) hle
  refine ⟨fun k target hk hmember hup hnearer => ?_, fun hdead => ?_⟩
  · have link : memberLink s.routes.active.dest[d].contents ((p + k) % n) = some target := (memberLink_eq_some (place k)).2 hmember
    have found : s.liveIndex d = some ((p + k) % n) :=
      liveIndex_eq_some hn hp hk (memberLive_iff.2 ⟨target, link, hup⟩) fun j hj =>
        memberLive_eq_false (place j) fun m => hnearer j m hj
    rw [State.liveTarget, advancePointer_of_some found, found, ← hn]
    exact ⟨link, rfl⟩
  · have none : s.liveIndex d = none := liveIndex_eq_none hn fun i hi =>
      memberLive_eq_false (lt_of_lt_of_le hi hle) fun m => hdead i m hi
    rw [State.liveTarget, none]
    exact ⟨rfl, advancePointer_of_none none⟩

/-! ### The members of a Group entry (R65) -/

theorem dcnOfByte_ofNat (d : Dcn) : dcnOfByte (BitVec.ofNat 8 d.val) = some d := by
  have hd : (BitVec.ofNat 8 d.val).toNat = d.val := by rw [BitVec.toNat_ofNat]; omega
  simp only [dcnOfByte, hd, Fin.is_lt, dif_pos]

/-- The DCNs whose bytes stand in the first COUNT places are the members, in their order. -/
theorem groupMembers_eq {e : GroupContents} {ds : List Dcn}
    (h : ds.map (fun d => BitVec.ofNat 8 d.val) = e.members.toList.take e.count.toNat) : groupMembers e = ds := by
  rw [groupMembers, ← h, List.filterMap_map]
  exact (List.filterMap_congr fun d _ => dcnOfByte_ofNat d).trans List.filterMap_some

theorem DestPossible.contains_destLinks (h : DestPossible e) (hv : e.valid = true) :
    (destLinks e).contains l = true ↔ BitVec.ofNat 8 l.val ∈ e.members.toList.take e.count.toNat := by
  rw [List.contains_iff_mem, mem_destLinks, Nat.min_eq_right (h.count_bounds hv).2]

section
variable {arrival : LinkId} {echo : Bool} {a : Resolving}

theorem resolveMember_marked (h : a.state.routes.destBad[d] = true) :
    resolveMember arrival echo a d = { a with state := a.state.countLink arrival .mcastCopyLoss } := by
  simp only [resolveMember, State.examineDest, h, examine_marked]

section
variable (hb : a.state.routes.destBad[d] = false)
include hb

theorem resolveMember_failing (hi : a.state.routes.active.dest[d].intact = false) :
    resolveMember arrival echo a d = { a with state := (a.state.markDest d).countLink arrival .mcastCopyLoss } := by
  simp only [resolveMember, State.examineDest, hb, hi, examine_failing]

variable (hi : a.state.routes.active.dest[d].intact = true)
include hi

theorem resolveMember_invalid (hv : a.state.routes.active.dest[d].contents.valid = false) :
    resolveMember arrival echo a d = { a with state := a.state.countLink arrival .mcastCopyLoss } := by
  simp only [resolveMember, State.examineDest, hb, hi, hv, examine_invalid]

variable (hv : a.state.routes.active.dest[d].contents.valid = true)
include hv

/-- R65: echo suppression passes a member over before the search for a live member. -/
theorem resolveMember_usable :
    resolveMember arrival echo a d =
      if !echo && (destLinks a.state.routes.active.dest[d].contents).contains arrival then a
      else (a.state.liveTarget d).elim { a with state := a.state.countLink arrival .mcastCopyLoss }
        fun target => { state := a.state.advancePointer d, targets := a.targets ++ [target] } := by
  simp only [resolveMember, State.examineDest, hb, hi, hv, examine_usable]
  cases a.state.liveTarget d <;> rfl

end
end

/-- Settles O18: the members that the stored bytes name, and one member by what its examination finds. -/
theorem multicastMembers : Obligations.MulticastMembers := by
  refine ⟨fun s arrival g e ds he hds => ?_, fun arrival echo a d e he => ?_⟩ <;> subst he
  · rw [State.resolveMembers, groupMembers_eq hds]
  · refine ⟨resolveMember_marked, resolveMember_failing, resolveMember_invalid, fun hb hi hv hposs => ?_⟩
    have echoed : (destLinks a.state.routes.active.dest[d].contents).contains arrival = true ↔ _ := hposs.contains_destLinks hv
    rw [resolveMember_usable hb hi hv]
    refine ⟨fun hecho hmem => ?_, fun hnot => ?_⟩
    · rw [if_pos (by rw [hecho, echoed.2 hmem]; rfl)]
    · have taken : ¬(!echo && (destLinks a.state.routes.active.dest[d].contents).contains arrival) = true := by
        rw [Bool.and_eq_true, Bool.not_eq_true', echoed]
        rintro ⟨hecho, hmem⟩
        exact hnot.elim (fun h => Bool.false_ne_true (hecho.symm.trans h)) fun h => h hmem
      rw [if_neg taken]
      exact ⟨fun hn => by rw [hn]; rfl, fun target ht => by rw [ht]; rfl⟩

end Sys2Proof.Machine
end

section
/-! SUPPORT. The route store, the flow unit, the credits, the flags, the masks and the counters at the two resets
(spec/03_route_sets_and_cell_resolution.md, R69; spec/06_congestion_signalling_and_credits.md, R133, R134;
spec/10_flags_notices_and_counters.md, R190). -/

namespace Sys2Proof.Machine

/-! ### What a reset writes -/

theorem routeSet_reset_dest (d : Dcn) : RouteSet.reset.dest[d] = { contents := destInvalid, intact := true } :=
  Vector.getElem_replicate ..

theorem routeSet_reset_group (g : GroupId) : RouteSet.reset.group[g] = { contents := groupInvalid, intact := true } :=
  Vector.getElem_replicate ..

theorem linkCredit_zero (c : ClassId) : LinkCredit.zero.granted[c] = 0 ∧ LinkCredit.zero.sent[c] = 0 :=
  ⟨Vector.getElem_replicate .., Vector.getElem_replicate ..⟩

theorem elementReset_routes (s : State) (bootSel : Bool) (id : BitVec 6) : (s.elementReset bootSel id).routes = RouteStore.reset := by
  cases bootSel <;> rfl

/-- Settles O7: of element reset a link by `elementReset_port` and the other blocks by the two samples of BOOT_SEL; of soft reset a
link by `softReset_eq`. -/
theorem bothResetsValues : Obligations.BothResetsValues := by
  have noCounts (i : Fin 15) : (Vector.replicate 15 (0 : BitVec 32))[i] = 0 := Vector.getElem_replicate ..
  have noElementCounts (i : Fin 6) : (Vector.replicate 6 (0 : BitVec 32))[i] = 0 := Vector.getElem_replicate ..
  refine ⟨fun bootSel id s => ⟨s.elementReset bootSel id, rfl, fun d => ?_, fun g => ?_, ?_⟩,
    fun s r rest hr hq hc => ⟨s.softReset, exec_softReset hr hq hc, rfl, rfl, rfl, rfl, fun l => ?_, getLsbD_one_bit, rfl, rfl, rfl,
      rfl, noElementCounts⟩⟩
  · rw [elementReset_routes]
    exact ⟨routeSet_reset_dest d, routeSet_reset_dest d, routeSet_reset_dest d, Vector.getElem_replicate ..,
      Vector.getElem_replicate ..⟩
  · rw [elementReset_routes]
    exact ⟨routeSet_reset_group g, routeSet_reset_group g, routeSet_reset_group g, Vector.getElem_replicate ..⟩
  · have links (l : LinkId) := elementReset_port s bootSel id l
    cases bootSel <;> exact ⟨rfl, rfl, rfl, fun l => links l ▸ ⟨rfl, rfl, rfl, rfl, linkCredit_zero, noCounts⟩, getLsbD_one_bit, rfl,
      rfl, rfl, rfl, noElementCounts, rfl, rfl⟩
  · rw [softReset_port, softReset_eq]
    exact ⟨rfl, rfl, rfl, rfl, rfl, linkCredit_zero, noCounts⟩

end Sys2Proof.Machine
end

section
/-! SUPPORT. Route entries as they are written (spec/03_route_sets_and_cell_resolution.md, R50, R51, R53): which bytes are taken, and
the possible entry that they give. -/

namespace Sys2Proof.Machine

variable {b : List Byte}

/-! ### Lists of members (R53) -/

theorem distinct_iff {l : List Byte} : distinct l = true ↔ l.Nodup := by
  induction l with
  | nil => simp [distinct]
  | cons x rest ih => simp [distinct, ih]

theorem rising_iff {l : List Byte} : rising l = true ↔ (l.map BitVec.toNat).IsChain (· < ·) := by
  induction l with
  | nil => simp [rising]
  | cons x rest ih =>
    cases rest with
    | nil => simp [rising]
    | cons y rest => simp [rising, ih]

theorem getElem_field {start n i : Nat} (h : i < (field b start n).length) : (field b start n)[i] = byteAt b (start + i) := by
  rw [← byteAt_of_lt h]
  exact byteAt_field b (by rwa [field_length] at h)

theorem forall_mem_field {start n : Nat} {P : Byte → Prop} :
    (∀ m ∈ field b start n, P m) ↔ ∀ i, i < n → P (byteAt b (start + i)) := by
  simp only [List.forall_mem_iff_getElem, getElem_field, field_length]

theorem nodup_field {start n : Nat} :
    (field b start n).Nodup ↔ ∀ i j, i < j → j < n → byteAt b (start + i) ≠ byteAt b (start + j) := by
  simp only [List.Nodup, List.pairwise_iff_getElem, getElem_field, field_length]
  exact ⟨fun h i j hij hj => h i j (hij.trans hj) hj hij, fun h i j _ hj hij => h i j hij hj⟩

theorem rising_field {start n : Nat} :
    rising (field b start n) = true ↔ ∀ i, i + 1 < n → (byteAt b (start + i)).toNat < (byteAt b (start + 1 + i)).toNat := by
  rw [rising_iff, List.isChain_map, List.isChain_iff_getElem]
  simp only [getElem_field, field_length, Nat.add_assoc, Nat.add_comm 1]

theorem getElem_bytesVec {n : Nat} (l : List Byte) (i : Fin n) : (bytesVec n l)[i] = byteAt l i.val := by
  rw [← byteAt_toList]
  exact byteAt_padTo l i.isLt

/-- The places of a member list: the bytes written, then 0. -/
theorem getElem_bytesVec_field {n : Nat} (start k : Nat) (i : Fin n) :
    (bytesVec n (field b start k))[i] = if i.val < k then byteAt b (start + i.val) else 0 := by
  rw [getElem_bytesVec]
  split <;> rename_i h
  · exact byteAt_field b h
  · exact byteAt_of_le (by rw [field_length]; exact Nat.le_of_not_lt h)

theorem take_bytesVec_field {n k : Nat} (start : Nat) (h : k ≤ n) :
    (bytesVec n (field b start k)).toList.take k = field b start k := by
  show (padTo n (field b start k)).take k = _
  rw [padTo, List.take_take, Nat.min_eq_left h]
  exact List.take_left' (field_length ..)

/-! ### Destination entries (R50) -/

/-- R53: the bytes of a valid Destination entry have none of the faults. -/
def DestTaken (b : List Byte) : Prop :=
  1 ≤ (byteAt b 1).toNat ∧ (byteAt b 1).toNat ≤ 4 ∧ (∀ m ∈ field b 2 (byteAt b 1).toNat, m.toNat < 64) ∧
    (field b 2 (byteAt b 1).toNat).Nodup

/-- R50: the contents that the bytes of a valid Destination entry give. -/
def destWritten (b : List Byte) : DestContents :=
  { valid := true, count := byteAt b 1, members := bytesVec 4 (field b 2 (byteAt b 1).toNat) }

theorem destTaken_iff : DestTaken b ↔ 1 ≤ (byteAt b 1).toNat ∧ (byteAt b 1).toNat ≤ 4 ∧
    (∀ i, i < (byteAt b 1).toNat → (byteAt b (2 + i)).toNat < 64) ∧
    ∀ i j, i < j → j < (byteAt b 1).toNat → byteAt b (2 + i) ≠ byteAt b (2 + j) := by
  rw [DestTaken, forall_mem_field, nodup_field]

theorem parseDest_invalid (h : (byteAt b 0).getLsbD 0 = false) : parseDest b = some destInvalid := by
  simp only [parseDest, h, Bool.not_false, if_true]

section
variable (h : (byteAt b 0).getLsbD 0 = true)
include h

theorem parseDest_taken (ht : DestTaken b) : parseDest b = some (destWritten b) := by
  simp only [parseDest, h, Bool.not_true, Bool.false_eq_true, if_false, List.all_eq_true, decide_eq_true_eq, distinct_iff]
  exact if_pos ht

theorem parseDest_refused (ht : ¬DestTaken b) : parseDest b = none := by
  simp only [parseDest, h, Bool.not_true, Bool.false_eq_true, if_false, List.all_eq_true, decide_eq_true_eq, distinct_iff]
  exact if_neg ht

end

theorem possible_destInvalid : DestPossible destInvalid := (if_neg Bool.false_ne_true).mpr rfl

theorem possible_destWritten (ht : DestTaken b) : DestPossible (destWritten b) := by
  obtain ⟨hpos, hle, hlinks, hnodup⟩ := ht
  have members : (destWritten b).members.toList.take (byteAt b 1).toNat = _ := take_bytesVec_field 2 hle
  refine (if_pos rfl).mpr ⟨hpos, hle, ?_, ?_⟩ <;> rw [show (destWritten b).count = byteAt b 1 from rfl, members]
  · exact hlinks
  · exact hnodup

/-- R53: no impossible entry is stored. -/
theorem possible_parseDest {e : DestContents} (h : parseDest b = some e) : DestPossible e := by
  cases hv : (byteAt b 0).getLsbD 0 with
  | false =>
    obtain rfl := Option.some.inj ((parseDest_invalid hv).symm.trans h)
    exact possible_destInvalid
  | true =>
    by_cases ht : DestTaken b
    · obtain rfl := Option.some.inj ((parseDest_taken hv ht).symm.trans h)
      exact possible_destWritten ht
    · exact absurd ((parseDest_refused hv ht).symm.trans h).symm (Option.some_ne_none e)

/-! ### Group entries (R51) -/

/-- R53: the bytes of a valid Group entry have none of the faults. -/
def GroupTaken (b : List Byte) : Prop :=
  1 ≤ (byteAt b 1).toNat ∧ (byteAt b 1).toNat ≤ 32 ∧ (∀ m ∈ field b 2 (byteAt b 1).toNat, m.toNat < 120) ∧
    rising (field b 2 (byteAt b 1).toNat) = true

/-- R51: the contents that the bytes of a valid Group entry give. -/
def groupWritten (b : List Byte) : GroupContents :=
  { valid := true, echo := (byteAt b 0).getLsbD 1, count := byteAt b 1
    members := bytesVec 32 (field b 2 (byteAt b 1).toNat) }

theorem groupTaken_iff : GroupTaken b ↔ 1 ≤ (byteAt b 1).toNat ∧ (byteAt b 1).toNat ≤ 32 ∧
    (∀ i, i < (byteAt b 1).toNat → (byteAt b (2 + i)).toNat < 120) ∧
    ∀ i, i + 1 < (byteAt b 1).toNat → (byteAt b (2 + i)).toNat < (byteAt b (3 + i)).toNat := by
  rw [GroupTaken, forall_mem_field, rising_field]

theorem parseGroup_invalid (h : (byteAt b 0).getLsbD 0 = false) : parseGroup b = some groupInvalid := by
  simp only [parseGroup, h, Bool.not_false, if_true]

section
variable (h : (byteAt b 0).getLsbD 0 = true)
include h

theorem parseGroup_taken (ht : GroupTaken b) : parseGroup b = some (groupWritten b) := by
  simp only [parseGroup, h, Bool.not_true, Bool.false_eq_true, if_false, List.all_eq_true, decide_eq_true_eq]
  exact if_pos ht

theorem parseGroup_refused (ht : ¬GroupTaken b) : parseGroup b = none := by
  simp only [parseGroup, h, Bool.not_true, Bool.false_eq_true, if_false, List.all_eq_true, decide_eq_true_eq]
  exact if_neg ht

end

theorem possible_groupInvalid : GroupPossible groupInvalid := (if_neg Bool.false_ne_true).mpr rfl

theorem possible_groupWritten (ht : GroupTaken b) : GroupPossible (groupWritten b) := by
  obtain ⟨hpos, hle, hdcns, hrise⟩ := ht
  have members : (groupWritten b).members.toList.take (byteAt b 1).toNat = _ := take_bytesVec_field 2 hle
  refine (if_pos rfl).mpr ⟨hpos, hle, ?_, ?_⟩ <;> rw [show (groupWritten b).count = byteAt b 1 from rfl, members]
  · exact hdcns
  · exact List.isChain_iff_pairwise.1 (rising_iff.1 hrise)

theorem possible_parseGroup {e : GroupContents} (h : parseGroup b = some e) : GroupPossible e := by
  cases hv : (byteAt b 0).getLsbD 0 with
  | false =>
    obtain rfl := Option.some.inj ((parseGroup_invalid hv).symm.trans h)
    exact possible_groupInvalid
  | true =>
    by_cases ht : GroupTaken b
    · obtain rfl := Option.some.inj ((parseGroup_taken hv ht).symm.trans h)
      exact possible_groupWritten ht
    · exact absurd ((parseGroup_refused hv ht).symm.trans h).symm (Option.some_ne_none e)

end Sys2Proof.Machine
end

section
/-! SUPPORT. WRITE of the route tables (spec/03_route_sets_and_cell_resolution.md, R53 to R55; spec/04_staging_commit_and_route_integrity.md,
R80; spec/09_management_requests.md, R168, R169). -/

namespace Sys2Proof.Machine

variable {s : State} {f : Fields} {o : Object} {set : RouteSetId}

/-! ### One entry written (R53, R55, R57) -/

section
variable (r : RouteStore) (set : RouteSetId)

theorem writeDest_get (d : Dcn) (e : DestContents) (other : RouteSetId) :
    (r.writeDest set d e).get other = (r.putDest set d { contents := e, intact := true }).get other := by
  cases set <;> cases other <;> rfl

theorem writeGroup_get (g : GroupId) (e : GroupContents) (other : RouteSetId) :
    (r.writeGroup set g e).get other = (r.putGroup set g { contents := e, intact := true }).get other := by
  cases set <;> cases other <;> rfl

theorem writeDest_destBad (d m : Dcn) (e : DestContents) :
    (r.writeDest set d e).destBad[m] = if set = .active ∧ m = d then false else r.destBad[m] := by
  cases set with
  | active => simp only [true_and]; exact getElem_set_fin ..
  | _ => rfl

theorem writeDest_pointer (d m : Dcn) (e : DestContents) :
    (r.writeDest set d e).pointer[m] = if set = .active ∧ m = d then 0 else r.pointer[m] := by
  cases set with
  | active => simp only [true_and]; exact getElem_set_fin ..
  | _ => rfl

theorem writeDest_groupBad (d : Dcn) (e : DestContents) : (r.writeDest set d e).groupBad = r.groupBad := by
  cases set <;> rfl

theorem writeGroup_group (g n : GroupId) (e : GroupContents) :
    ((r.writeGroup set g e).get set).group[n] = if n = g then { contents := e, intact := true } else (r.get set).group[n] := by
  rw [writeGroup_get, putGroup_group]

theorem writeGroup_dest (g : GroupId) (e : GroupContents) : ((r.writeGroup set g e).get set).dest = (r.get set).dest := by
  rw [writeGroup_get, putGroup_dest]

theorem writeGroup_groupBad (g n : GroupId) (e : GroupContents) :
    (r.writeGroup set g e).groupBad[n] = if set = .active ∧ n = g then false else r.groupBad[n] := by
  cases set with
  | active => simp only [true_and]; exact getElem_set_fin ..
  | _ => rfl

theorem writeGroup_apart (g : GroupId) (e : GroupContents) :
    (r.writeGroup set g e).destBad = r.destBad ∧ (r.writeGroup set g e).pointer = r.pointer := by
  cases set <;> exact ⟨rfl, rfl⟩

end

/-! ### The entries of a WRITE stored (R53) -/

/-- From `r` to `q` the Destination entries `entry 0`, … , `entry (n - 1)` of a set are written from DCN `i` on, and nothing else. -/
structure DestsStored (r q : RouteStore) (set : RouteSetId) (i n : Nat) (entry : Nat → DestContents) : Prop where
  dest : ∀ d : Dcn, (q.get set).dest[d] =
    if i ≤ d.val ∧ d.val < i + n then { contents := entry (d.val - i), intact := true } else (r.get set).dest[d]
  destBad : ∀ d : Dcn, q.destBad[d] = if set = .active ∧ i ≤ d.val ∧ d.val < i + n then false else r.destBad[d]
  pointer : ∀ d : Dcn, q.pointer[d] = if set = .active ∧ i ≤ d.val ∧ d.val < i + n then 0 else r.pointer[d]
  group : (q.get set).group = (r.get set).group
  groupBad : q.groupBad = r.groupBad
  other : ∀ other, other ≠ set → q.get other = r.get other

theorem DestsStored.none (r : RouteStore) (set : RouteSetId) (i : Nat) (entry : Nat → DestContents) :
    DestsStored r r set i 0 entry where
  dest d := (if_neg (by omega)).symm
  destBad d := (if_neg (by omega)).symm
  pointer d := (if_neg (by omega)).symm
  group := rfl
  groupBad := rfl
  other _ _ := rfl

/-- The first entry written, then the rest. -/
theorem DestsStored.cons {r q : RouteStore} {d : Dcn} {n : Nat} {entry : Nat → DestContents}
    (h : DestsStored (r.writeDest set d (entry 0)) q set (d.val + 1) n fun k => entry (k + 1)) :
    DestsStored r q set d.val (n + 1) entry where
  dest m := by
    rw [h.dest, writeDest_get, putDest_dest]
    by_cases hm : m = d
    · subst hm
      rw [if_neg (by omega), if_pos rfl, if_pos (by omega), Nat.sub_self]
    · have hne : m.val ≠ d.val := fun e => hm (Fin.ext e)
      rw [if_neg hm]
      refine ite_congr (propext (by omega)) (fun hin => ?_) fun _ => rfl
      rw [show m.val - (d.val + 1) + 1 = m.val - d.val by omega]
  destBad m := by
    rw [h.destBad, writeDest_destBad, ← ite_or]
    exact if_congr (by rw [Fin.ext_iff, ← and_or_left]; exact and_congr_right fun _ => by omega) rfl rfl
  pointer m := by
    rw [h.pointer, writeDest_pointer, ← ite_or]
    exact if_congr (by rw [Fin.ext_iff, ← and_or_left]; exact and_congr_right fun _ => by omega) rfl rfl
  group := by rw [h.group, writeDest_get, putDest_group]
  groupBad := by rw [h.groupBad, writeDest_groupBad]
  other x hx := by rw [h.other x hx, writeDest_get]; exact get_put_ne hx _

theorem DestsStored.stage {r q : RouteStore} {i n : Nat} {entry : Nat → DestContents} (h : DestsStored r q set i n entry)
    (hs : set ≠ .active) : q.destBad = r.destBad ∧ q.pointer = r.pointer :=
  ⟨Vector.ext fun k hk => (h.destBad ⟨k, hk⟩).trans (if_neg fun hin => hs hin.1),
    Vector.ext fun k hk => (h.pointer ⟨k, hk⟩).trans (if_neg fun hin => hs hin.1)⟩

theorem storeDests_frame (s : State) (set : RouteSetId) (i : Nat) (es : List DestContents) :
    s.storeDests set i es = { s with routes := (s.storeDests set i es).routes } := by
  induction es generalizing s i with
  | nil => rfl
  | cons e rest ih =>
    unfold State.storeDests
    split
    · rw [ih]; rfl
    · rfl

theorem storeDests_routes (s : State) (set : RouteSetId) {i n : Nat} (entry : Nat → DestContents) (h : i + n ≤ 120) :
    DestsStored s.routes (s.storeDests set i ((List.range n).map entry)).routes set i n entry := by
  induction n generalizing s i entry with
  | zero => exact .none ..
  | succ n ih =>
    have hi : i < 120 := by omega
    rw [List.range_succ_eq_map, List.map_cons, List.map_map, State.storeDests, dif_pos hi]
    exact .cons (d := ⟨i, hi⟩) (ih (s.modRoutes fun r => r.writeDest set ⟨i, hi⟩ (entry 0)) (fun k => entry (k + 1)) (by omega))

theorem storeGroups_singleton (s : State) (set : RouteSetId) (g : GroupId) (x : GroupContents) :
    s.storeGroups set g.val [x] = { s with routes := s.routes.writeGroup set g x } := by
  rw [State.storeGroups, dif_pos g.isLt]
  rfl

/-! ### The judgement (R80, R168, R169) -/

theorem selects_iff {u : CommitUnit} : u.selects set = true ↔
    ∃ q, (u.state = .armed q ∨ ∃ n e, u.state = .checking q n e) ∧ q.stage.set = set := by
  unfold CommitUnit.selects
  cases u.state <;> simp

theorem routeSet_selects (hset : o = .dest set ∨ o = .group set) : o.routeSet.any s.commit.selects = s.commit.selects set := by
  rcases hset with rfl | rfl <;> rfl

/-- The row of a WRITE of a route table, by the set. -/
theorem judgeWrite_route (ho : objectOf f.object = some o) (hset : o = .dest set ∨ o = .group set) :
    judgeWrite f s = if set = .active then judgeWriteActive f s else judgeWriteStage f s := by
  rcases hset with rfl | rfl <;> cases set <;> simp only [judgeWrite, ho, writeKind] <;> rfl

theorem kind_writeRoute (hc : f.command = 0x02) (ho : objectOf f.object = some o) (hset : o = .dest set ∨ o = .group set) :
    f.kind = if set = .active then .writeActive else .writeStage := by
  rw [Fields.kind, hc, ho]
  rcases hset with rfl | rfl <;> cases set <;> rfl

/-- The row serves the head of the queue as the judgement `v` of a WRITE comes to. -/
theorem exec_writeRoute {r : Request} {rest : List Request} {v : Served} (hr : s.inReset = false)
    (hq : s.agent.requests = r :: rest) (hc : r.fields.command = 0x02) (ho : objectOf r.fields.object = some o)
    (hset : o = .dest set ∨ o = .group set) (hv : judgeWrite r.fields (s.dropRequest rest) = v) :
    exec (if set = .active then .writeActive else .writeStage) s = .next (v.state.respond r v.status v.data) := by
  have hk := kind_writeRoute hc ho hset
  rw [judgeWrite_route ho hset] at hv
  split at hv <;> rename_i hs <;> simp only [hs, if_true, if_false] at hk ⊢
  · exact (act_run _ hr : execWriteActive s = _).trans (congrArg _ (serve_head_eq hq hk hv))
  · exact (act_run _ hr : execWriteStage s = _).trans (congrArg _ (serve_head_eq hq hk hv))

section
variable (ho : objectOf f.object = some o) (hset : o = .dest set ∨ o = .group set)
include ho hset

theorem judgeWrite_refused {status : Status} (h : f.shapeRefusal o = some status) : judgeWrite f s = refuse s status := by
  rw [judgeWrite_route ho hset]
  split
  · simp only [judgeWriteActive, ho, h]
  · simp only [judgeWriteStage, ho, h]

variable (hs : f.shapeRefusal o = none)
include hs

theorem judgeWrite_phase (ha : set = .active) (hp : s.agent.phase = .run) : judgeWrite f s = refuse s .phase := by
  rw [judgeWrite_route ho hset, if_pos ha]
  simp only [judgeWriteActive, ho, hs, hp, if_true]

theorem judgeWrite_busy (hb : s.commit.selects set = true) : judgeWrite f s = refuse (s.latch .stageBusyWrite) .busy := by
  obtain ⟨q, -, hq⟩ := selects_iff.1 hb
  have stage : set ≠ .active := by rw [← hq]; cases q.stage <;> exact RouteSetId.noConfusion
  rw [judgeWrite_route ho hset, if_neg stage]
  simp only [judgeWriteStage, ho, hs, routeSet_selects hset, hb, if_true]

theorem judgeWrite_contents (hp : set = .active → s.agent.phase = .config) (hb : s.commit.selects set = false) :
    judgeWrite f s = judgeRouteContents f s o := by
  rw [judgeWrite_route ho hset]
  split <;> rename_i ha
  · simp only [judgeWriteActive, ho, hs, hp ha, reduceCtorEq, if_false]
  · simp only [judgeWriteStage, ho, hs, routeSet_selects hset, hb, Bool.false_eq_true, if_false]

end

theorem judgeRouteContents_dest :
    judgeRouteContents f s (.dest set) = (f.parsed (.dest set) parseDest).elim (refuse s .badValue)
      fun entries => taken (s.storeDests set f.index.toNat entries) := by
  rw [judgeRouteContents]
  cases f.parsed (.dest set) parseDest <;> rfl

theorem judgeRouteContents_group :
    judgeRouteContents f s (.group set) = (f.parsed (.group set) parseGroup).elim (refuse s .badValue)
      fun entries => taken (s.storeGroups set f.index.toNat entries) := by
  rw [judgeRouteContents]
  cases f.parsed (.group set) parseGroup <;> rfl

/-- R51: a WRITE of a Group Table carries one entry. -/
theorem count_group (h : f.shapeRefusal (.group set) = none) : f.count.toNat = 1 := by
  unfold Fields.shapeRefusal at h
  split at h <;> rename_i hcount
  · exact absurd h (Option.some_ne_none _)
  · have one : (Object.group set).perRequest = 1 := rfl
    omega

/-! ### The statement, part by part -/

/-- R50, R51, R53: the contents that the bytes of an entry give, or their refusal. -/
theorem routeEntries_parsed (b : List Byte) :
    ((byteAt b 0).getLsbD 0 = false → parseDest b = some destInvalid ∧ parseGroup b = some groupInvalid) ∧
    ((byteAt b 0).getLsbD 0 = true →
      (DestTaken b → ∃ e, parseDest b = some e ∧ e.valid = true ∧ e.count = byteAt b 1 ∧
        ∀ i : Fin 4, e.members[i] = if i.val < (byteAt b 1).toNat then byteAt b (2 + i.val) else 0) ∧
      (¬DestTaken b → parseDest b = none) ∧
      (GroupTaken b → ∃ e, parseGroup b = some e ∧ e.valid = true ∧ (e.echo = (byteAt b 0).getLsbD 1) ∧ e.count = byteAt b 1 ∧
        ∀ i : Fin 32, e.members[i] = if i.val < (byteAt b 1).toNat then byteAt b (2 + i.val) else 0) ∧
      (¬GroupTaken b → parseGroup b = none)) :=
  ⟨fun h => ⟨parseDest_invalid h, parseGroup_invalid h⟩, fun h =>
    ⟨fun ht => ⟨_, parseDest_taken h ht, rfl, rfl, getElem_bytesVec_field 2 _⟩, parseDest_refused h,
      fun ht => ⟨_, parseGroup_taken h ht, rfl, rfl, rfl, getElem_bytesVec_field 2 _⟩, parseGroup_refused h⟩⟩

theorem not_destTaken {b : List Byte} (h : byteAt b 1 = 0 ∨ 4 < (byteAt b 1).toNat ∨
    (∃ i, i < (byteAt b 1).toNat ∧ 64 ≤ (byteAt b (2 + i)).toNat) ∨
    ∃ i j, i < j ∧ j < (byteAt b 1).toNat ∧ byteAt b (2 + i) = byteAt b (2 + j)) : ¬DestTaken b := by
  rw [destTaken_iff]
  rintro ⟨hpos, hle, hlinks, hdistinct⟩
  rcases h with h | h | ⟨i, hi, h⟩ | ⟨i, j, hij, hj, h⟩
  · exact absurd (h ▸ hpos) (by decide)
  · exact absurd hle (Nat.not_le.2 h)
  · exact absurd (hlinks i hi) (Nat.not_lt.2 h)
  · exact hdistinct i j hij hj h

theorem not_groupTaken {b : List Byte} (h : byteAt b 1 = 0 ∨ 32 < (byteAt b 1).toNat ∨
    (∃ i, i < (byteAt b 1).toNat ∧ 120 ≤ (byteAt b (2 + i)).toNat) ∨
    ∃ i, i + 1 < (byteAt b 1).toNat ∧ (byteAt b (3 + i)).toNat ≤ (byteAt b (2 + i)).toNat) : ¬GroupTaken b := by
  rw [groupTaken_iff]
  rintro ⟨hpos, hle, hdcns, hrise⟩
  rcases h with h | h | ⟨i, hi, h⟩ | ⟨i, hi, h⟩
  · exact absurd (h ▸ hpos) (by decide)
  · exact absurd hle (Nat.not_le.2 h)
  · exact absurd (hdcns i hi) (Nat.not_lt.2 h)
  · exact absurd (hrise i hi) (Nat.not_lt.2 h)

/-- Settles O44: the entries as they are parsed, the judgement of the WRITE in its order, and the entries stored. -/
theorem routeEntriesAndWrites : Obligations.RouteEntriesAndWrites := by
  refine ⟨⟨rfl, rfl⟩, fun b => ?_, fun s u r rest f o set c hr hq hf hu hc ho hset hrow => ?_⟩
  · obtain ⟨invalid, valid⟩ := routeEntries_parsed b
    refine ⟨invalid, fun h => ?_⟩
    obtain ⟨dest, noDest, group, noGroup⟩ := valid h
    exact ⟨dest ∘ destTaken_iff.2, noDest ∘ not_destTaken, group ∘ groupTaken_iff.2, noGroup ∘ not_groupTaken⟩
  · subst hf hu hrow
    have served {v : Served} (hv : judgeWrite r.fields (s.dropRequest rest) = v) := exec_writeRoute hr hq hc ho hset hv
    refine ⟨fun status h => served (v := refuse _ _) (judgeWrite_refused ho hset h), fun hs =>
      ⟨fun ha hp => served (v := refuse _ _) (judgeWrite_phase ho hset hs ha hp),
        fun q hstate hq => served (v := refuse _ _) (judgeWrite_busy ho hset hs (selects_iff.2 ⟨q, hstate, hq⟩)),
        fun hp hfree => ?_⟩⟩
    have judged := judgeWrite_contents (s := s.dropRequest rest) ho hset hs hp
      (Bool.eq_false_iff.2 fun hb => by
        obtain ⟨q, hstate, hq⟩ := selects_iff.1 hb
        exact hfree q hstate hq)
    obtain ⟨-, -, hrange⟩ := of_shapeRefusal_none hs
    refine ⟨?_, ?_, ?_, ?_⟩
    · rintro k rfl hk hnone
      rw [judgeRouteContents_dest, parsed_eq_none ⟨k, hk, hnone⟩] at judged
      exact served (v := refuse _ _) judged
    · rintro k rfl hk hnone
      rw [judgeRouteContents_group, parsed_eq_none ⟨k, hk, hnone⟩] at judged
      exact served (v := refuse _ _) judged
    · rintro entry rfl hentry
      rw [judgeRouteContents_dest, parsed_eq_some hentry, Option.elim_some, storeDests_frame] at judged
      have stored := storeDests_routes (s.dropRequest rest) set entry hrange
      refine ⟨_, served (v := taken _) judged, fun d hlo hhi => ⟨?_, fun ha => ⟨?_, ?_⟩⟩, fun d hout => ⟨?_, ?_, ?_⟩, stored.stage,
        stored.group, stored.groupBad, stored.other⟩
      · exact (stored.dest d).trans (if_pos ⟨hlo, hhi⟩)
      · exact (stored.destBad d).trans (if_pos ⟨ha, hlo, hhi⟩)
      · exact (stored.pointer d).trans (if_pos ⟨ha, hlo, hhi⟩)
      · exact (stored.dest d).trans (if_neg (by omega))
      · exact (stored.destBad d).trans (if_neg (by omega))
      · exact (stored.pointer d).trans (if_neg (by omega))
    · rintro x g rfl hg hx
      have one := count_group hs
      have parsed : r.fields.parsed (.group set) parseGroup = some [x] := by
        rw [parsed_eq_some (entry := fun _ => x) fun k hk => by rwa [show k = 0 by omega], one]
        rfl
      rw [judgeRouteContents_group, parsed, Option.elim_some, ← hg, storeGroups_singleton] at judged
      have apart := writeGroup_apart s.routes set g x
      refine ⟨_, served (v := taken _) judged, (writeGroup_group ..).trans (if_pos rfl), fun ha => ?_, fun ha => ?_,
        fun h hne => ⟨(writeGroup_group ..).trans (if_neg hne), ?_⟩, writeGroup_dest .., apart.1, apart.2, fun other hother => ?_⟩
      · exact (writeGroup_groupBad ..).trans (if_pos ⟨ha, rfl⟩)
      · exact Vector.ext fun k hk => (writeGroup_groupBad s.routes set g ⟨k, hk⟩ x).trans (if_neg fun h => ha h.1)
      · exact (writeGroup_groupBad ..).trans (if_neg fun h => hne h.2)
      · exact (writeGroup_get ..).trans (get_put_ne hother _)

end Sys2Proof.Machine
end

section
/-! SUPPORT. What keeps the route store sound (Sys2Proof/Safety.lean; spec/03_route_sets_and_cell_resolution.md, R49, R53, R57): every
operation that writes entries, bad marks or spray pointers. -/

namespace Sys2Proof.Machine

variable {s : State} {r : RouteStore} {set : RouteSetId} {d m : Dcn} {g : GroupId}

/-! ### The invariant as one of the route store -/

/-- R57: a spray pointer fits an entry: while the entry is intact it is less than the member count, and 0 when there is no member. -/
def DestEntry.Fits (e : DestEntry) (p : Fin 4) : Prop :=
  e.intact = true → if e.contents.valid then p.val < e.contents.count.toNat else p = 0

/-- R49, R57: the route store is sound. -/
structure RouteStore.Sound (r : RouteStore) : Prop where
  stageA : r.stageA.Sound
  stageB : r.stageB.Sound
  active : r.active.Sound
  fits : ∀ d : Dcn, r.active.dest[d].Fits r.pointer[d]

theorem routesSound_iff : s.RoutesSound ↔ s.routes.Sound :=
  ⟨fun ⟨hA, hB, hactive, hfits⟩ => ⟨hA, hB, hactive, hfits⟩, fun h => ⟨h.stageA, h.stageB, h.active, h.fits⟩⟩

theorem RouteStore.Sound.get (h : r.Sound) : ∀ set, (r.get set).Sound
  | .stageA => h.stageA
  | .stageB => h.stageB
  | .active => h.active

theorem RouteStore.Sound.of_get (h : ∀ set, (r.get set).Sound) (hf : ∀ d : Dcn, r.active.dest[d].Fits r.pointer[d]) : r.Sound :=
  ⟨h .stageA, h .stageB, h .active, hf⟩

theorem RouteSet.Sound.dest {x : RouteSet} (h : x.Sound) (d : Dcn) : x.dest[d].intact = true → DestPossible x.dest[d].contents :=
  h.1 d

/-- R57: pointer 0 fits every entry that is possible. -/
theorem fits_zero {e : DestEntry} (h : e.intact = true → DestPossible e.contents) : e.Fits 0 := by
  intro hi
  split <;> rename_i hv
  · obtain ⟨hpos, -⟩ := (h hi).count_bounds hv
    exact hpos
  · rfl

theorem fits_of_disturbed (x : DestContents) (p : Fin 4) : DestEntry.Fits { contents := x, intact := false } p :=
  fun h => absurd h Bool.false_ne_true

/-! ### Entries stored (R52, R53, R55) -/

theorem sound_putDest {e : DestEntry} (h : ∀ x, (r.get x).Sound) (he : e.intact = true → DestPossible e.contents)
    (x : RouteSetId) : ((r.putDest set d e).get x).Sound := by
  by_cases hx : x = set
  · subst hx
    refine ⟨fun m => ?_, fun g => by rw [putDest_group]; exact (h x).2 g⟩
    rw [putDest_dest]
    split
    · exact he
    · exact (h x).1 m
  · exact (get_put_ne hx _ : (r.putDest set d e).get x = r.get x) ▸ h x

theorem sound_putGroup {e : GroupEntry} (h : ∀ x, (r.get x).Sound) (he : e.intact = true → GroupPossible e.contents)
    (x : RouteSetId) : ((r.putGroup set g e).get x).Sound := by
  by_cases hx : x = set
  · subst hx
    refine ⟨fun m => by rw [putGroup_dest]; exact (h x).1 m, fun n => ?_⟩
    rw [putGroup_group]
    split
    · exact he
    · exact (h x).2 n
  · exact (get_put_ne hx _ : (r.putGroup set g e).get x = r.get x) ▸ h x

theorem putDest_active (r : RouteStore) (set : RouteSetId) (d m : Dcn) (e : DestEntry) :
    (r.putDest set d e).active.dest[m] = if set = .active ∧ m = d then e else r.active.dest[m] := by
  cases set with
  | active => simp only [true_and]; exact putDest_dest r .active d m e
  | _ => rfl

theorem writeDest_active (r : RouteStore) (set : RouteSetId) (d m : Dcn) (e : DestContents) :
    (r.writeDest set d e).active.dest[m] =
      if set = .active ∧ m = d then { contents := e, intact := true } else r.active.dest[m] := by
  rw [← putDest_active]
  cases set <;> rfl

theorem putGroup_active (r : RouteStore) (set : RouteSetId) (g : GroupId) (e : GroupEntry) :
    (r.putGroup set g e).active.dest = r.active.dest := by
  cases set <;> rfl

theorem writeGroup_active (r : RouteStore) (set : RouteSetId) (g : GroupId) (e : GroupContents) :
    (r.writeGroup set g e).active.dest = r.active.dest := by
  cases set <;> rfl

/-- R52: an upset leaves an entry that is not intact, and leaves the pointers. -/
theorem RouteStore.Sound.upset (h : r.Sound) (x : Upset) : (r.upset x).Sound := by
  cases x with
  | dest set d c =>
    refine .of_get (sound_putDest h.get fun hi => absurd hi Bool.false_ne_true) fun m => ?_
    rw [RouteStore.upset, putDest_active, show (r.putDest set d _).pointer = r.pointer from (put_apart ..).2.2]
    split
    · exact fits_of_disturbed c _
    · exact h.fits m
  | group set g c =>
    refine .of_get (sound_putGroup h.get fun hi => absurd hi Bool.false_ne_true) fun m => ?_
    rw [RouteStore.upset, putGroup_active, show (r.putGroup set g _).pointer = r.pointer from (put_apart ..).2.2]
    exact h.fits m

/-- R53, R57: a written entry is possible, and in ACTIVE its pointer is 0. -/
theorem RouteStore.Sound.writeDest (h : r.Sound) {e : DestContents} (he : DestPossible e) : (r.writeDest set d e).Sound := by
  refine .of_get (fun x => writeDest_get .. ▸ sound_putDest h.get (fun _ => he) x) fun m => ?_
  rw [writeDest_active, writeDest_pointer]
  split
  · exact fits_zero fun _ => he
  · exact h.fits m

theorem RouteStore.Sound.writeGroup (h : r.Sound) {e : GroupContents} (he : GroupPossible e) : (r.writeGroup set g e).Sound := by
  refine .of_get (fun x => writeGroup_get .. ▸ sound_putGroup h.get (fun _ => he) x) fun m => ?_
  rw [writeGroup_active, (writeGroup_apart ..).2]
  exact h.fits m

/-! ### Bad marks, firing and resets (R58, R69, R77, R78) -/

/-- R58: the bad marks stand apart from what is sound. -/
theorem RouteStore.Sound.marks (h : r.Sound) (x : Vector Bool 120) (y : Vector Bool 512) :
    ({ r with destBad := x, groupBad := y } : RouteStore).Sound :=
  ⟨h.stageA, h.stageB, h.active, h.fits⟩

/-- R77, R78: ACTIVE takes a stage, intact where the stage is, and every pointer is 0. -/
theorem RouteStore.Sound.fire (h : r.Sound) (stage : Stage) : (r.fire stage).Sound where
  stageA := h.stageA
  stageB := h.stageB
  active := h.get stage.set
  fits d := by
    rw [show (r.fire stage).pointer[d] = 0 from Vector.getElem_replicate ..]
    exact fits_zero ((h.get stage.set).dest d)

theorem sound_routeSet_reset : RouteSet.reset.Sound :=
  ⟨fun d _ => by rw [routeSet_reset_dest]; exact possible_destInvalid,
    fun g _ => by rw [routeSet_reset_group]; exact possible_groupInvalid⟩

theorem sound_routeStore_reset : RouteStore.reset.Sound where
  stageA := sound_routeSet_reset
  stageB := sound_routeSet_reset
  active := sound_routeSet_reset
  fits d := by
    rw [show RouteStore.reset.pointer[d] = 0 from Vector.getElem_replicate ..]
    exact fits_zero (sound_routeSet_reset.dest d)

/-! ### The spray pointer after a search (R57, R61) -/

/-- An entry with no member has no live member. -/
theorem liveIndex_destInvalid (h : s.routes.active.dest[d].contents = destInvalid) : s.liveIndex d = none :=
  liveIndex_eq_none (n := 0) (by rw [h]; rfl) fun i hi => absurd hi (Nat.not_lt_zero i)

/-- R57: the pointer after a search is the place after a member, modulo the member count. -/
theorem fits_advanced (h : s.routes.Sound) {i : Nat} (hi : s.liveIndex d = some i) :
    s.routes.active.dest[d].Fits (Fin.ofNat 4 ((i + 1) % s.routes.active.dest[d].contents.count.toNat)) := by
  intro hint
  have possible := h.active.dest d hint
  split <;> rename_i hv
  · obtain ⟨hpos, hle⟩ := possible.count_bounds hv
    exact lt_of_le_of_lt (Nat.mod_le ..) (Nat.mod_lt _ hpos)
  · rw [DestPossible, if_neg hv] at possible
    exact absurd ((liveIndex_destInvalid possible).symm.trans hi).symm (Option.some_ne_none i)

theorem sound_advancePointer (h : s.routes.Sound) (d : Dcn) : (s.advancePointer d).routes.Sound := by
  cases hi : s.liveIndex d with
  | none => rwa [advancePointer_of_none hi]
  | some i =>
    rw [advancePointer_of_some hi]
    refine ⟨h.stageA, h.stageB, h.active, fun m => ?_⟩
    rw [getElem_set_fin]
    split <;> rename_i hm
    · rw [hm]; exact fits_advanced h hi
    · exact h.fits m

end Sys2Proof.Machine
end

section
/-! SUPPORT. The operations that leave the route store as it was: those of the links, the buffer, the flow unit, the epoch unit, the
schedulers and the management agent. -/

namespace Sys2Proof.Machine

variable (s : State) (l : LinkId) (f : Fields)

/-! ### Shared operations, by their frames -/

@[simp] theorem latchLink_routes (x : LinkFlag) : (s.latchLink l x).routes = s.routes := by rw [latchLink_frame]

@[simp] theorem changeNotice_routes : s.changeNotice.routes = s.routes := by rw [changeNotice_frame]

@[simp] theorem gapExpiry_routes : s.gapExpiry.routes = s.routes := by rw [gapExpiry_frame]

@[simp] theorem refreshFlow_routes : s.refreshFlow.routes = s.routes := by rw [refreshFlow_frame]

@[simp] theorem xoffReevaluate_routes (c : ClassId) : (s.xoffReevaluate l c).routes = s.routes := by rw [xoffReevaluate_frame]

@[simp] theorem evalCongestion_routes : s.evalCongestion.routes = s.routes := by rw [evalCongestion_frame]

@[simp] theorem admitCell_routes (c : ClassId) (cell : Cell) (targets : List Target) :
    (s.admitCell c cell targets).routes = s.routes := by rw [admit_frame]

@[simp] theorem removeHead_routes (c : ClassId) (slot : Nat) (rest : List Nat) :
    (s.removeHead l c slot rest).routes = s.routes := by rw [removeHead_frame]

@[simp] theorem completeFlush_routes : (s.completeFlush l).routes = s.routes := by rw [completeFlush_frame]

@[simp] theorem abandonTraffic_routes (was : LinkState) : (s.abandonTraffic l was).routes = s.routes := by
  rw [abandonTraffic_frame]

@[simp] theorem disableNow_routes : (s.disableNow l).routes = s.routes := by rw [disableNow_frame]

@[simp] theorem disableDrain_routes : (s.disableDrain l).routes = s.routes := by rw [disableDrain_frame]

@[simp] theorem tellQueuesEmpty_routes : (s.tellQueuesEmpty l).routes = s.routes := by rw [tellQueuesEmpty_frame]

@[simp] theorem enterFault_routes (cause : FaultCause) : (s.enterFault l cause).routes = s.routes := by rw [enterFault_frame]

@[simp] theorem report_routes (r : Report) : (s.report l r).routes = s.routes := by rw [report_frame]

@[simp] theorem endCommit_routes (r : CommitRequest) (o : CommitOutcome) (e : Half) :
    (s.endCommit r o e).routes = s.routes := by rw [endCommit_frame]

@[simp] theorem boundary_routes (carried : Option Half) (sync : SyncState) (missRun : Nat) (lost : Bool) :
    (s.boundary carried sync missRun lost).routes = s.routes := by rw [boundary_frame]

@[simp] theorem respond_routes (r : Request) (status : Status) (data : List Byte) :
    (s.respond r status data).routes = s.routes := by rw [respond_frame]

/-- A fold of operations that leave the route store leaves it. -/
theorem foldl_routes {α : Type} {op : State → α → State} (h : ∀ t a, (op t a).routes = t.routes) (as : List α) (s : State) :
    (as.foldl op s).routes = s.routes := by
  induction as generalizing s with
  | nil => rfl
  | cons a rest ih => rw [List.foldl_cons, ih, h]

/-! ### Links (R33, R39, R43, R110, R111) -/

theorem lossExpiry_routes : (s.lossExpiry l).routes = s.routes := by
  unfold State.lossExpiry
  dsimp only
  split <;> simp

theorem linkBoundary_routes : (s.linkBoundary l).routes = s.routes := by
  unfold State.linkBoundary
  split <;> simp

theorem drainAtLimit_routes : (s.drainAtLimit l).routes = s.routes := by
  unfold State.drainAtLimit
  split <;> simp

theorem endHoldDown_routes : (s.endHoldDown l).routes = s.routes := by
  unfold State.endHoldDown
  split
  · dsimp only
    split
    · simp
    · exact modPort_routes ..
  · rfl

theorem flushOne_routes : (s.flushOne l).routes = s.routes := by
  unfold State.flushOne
  split
  · split
    · rfl
    · split <;> simp
  · rfl

theorem flushEnd_routes : (s.flushEnd l).routes = s.routes := by
  unfold State.flushEnd
  split <;> simp

/-! ### Epochs and the pin (R155 to R158) -/

@[simp] theorem externalEpoch_routes (carried : Option Half) (elapsed : Nat) :
    (s.externalEpoch carried elapsed).routes = s.routes := by
  have judged : (let t := s.modEpoch fun e => { e with window := e.reading elapsed }
      if t.epoch.window < t.epoch.period - t.epoch.tol then (t.countElement .epochEarlyCount).latch .epochEarly
      else t.boundary carried .locked 0 false).routes = s.routes := by
    dsimp only
    split <;> simp
  unfold State.externalEpoch
  split
  · rfl
  · exact boundary_routes ..
  · exact boundary_routes ..
  · exact judged
  · exact judged

theorem timerBoundary_routes : s.timerBoundary.routes = s.routes := by
  unfold State.timerBoundary
  split <;> simp

theorem holdoverBoundary_routes : s.holdoverBoundary.routes = s.routes := by
  have missed : (let t := (s.countElement .epochMissedCount).latch .epochMissed
      if 4 ≤ s.epoch.missRun + 1 then (t.latch .epochLost).boundary none .lost (s.epoch.missRun + 1) true
      else t.boundary none .holdover (s.epoch.missRun + 1) false).routes = s.routes := by
    dsimp only
    split <;> simp
  unfold State.holdoverBoundary
  split
  · exact missed
  · exact missed
  all_goals rfl

theorem pinRises_routes (elapsed : Nat) : (s.pinRises elapsed).routes = s.routes := by
  unfold State.pinRises
  split
  · rfl
  · dsimp only
    split <;> simp

theorem stuckExpiry_routes : s.stuckExpiry.routes = s.routes := by
  unfold State.stuckExpiry
  split <;> simp

/-! ### Admission (R97 to R100) -/

@[simp] theorem admitUnicast_routes (c : ClassId) (cell : Cell) (target : Target) :
    (s.admitUnicast l c cell target).routes = s.routes := by
  unfold State.admitUnicast
  split <;> simp

@[simp] theorem countDrops_routes (refused : List (Target × Refused)) : (s.countDrops refused).routes = s.routes :=
  foldl_routes (op := fun t (r : Target × Refused) => t.countLink r.1 .mcastCopyDrop) (fun _ _ => rfl) refused s

@[simp] theorem admitMulticast_routes (c : ClassId) (cell : Cell) (targets : List Target) :
    (s.admitMulticast l c cell targets).routes = s.routes := by
  have wholeLoss (t : State) (refused : List (Target × Refused)) : (t.countWholeLoss l refused).routes = t.routes := by
    unfold State.countWholeLoss
    split <;> simp
  unfold State.admitMulticast
  dsimp only
  split
  · rw [wholeLoss, countDrops_routes]
  · simp

/-! ### Other received cells (R127, R159, R164) -/

theorem takeFlow_routes (cell : Cell) : (s.takeFlow l cell).routes = s.routes := by
  refine foldl_routes (op := fun t c => t.judgeGrant l c (cell.byte c.val)) (fun t c => ?_) allClasses s
  unfold State.judgeGrant
  split <;> simp

theorem takeMgmt_routes (cell : Cell) : (s.takeMgmt l cell).routes = s.routes := by
  unfold State.takeMgmt
  split <;> simp

theorem takeSync_routes (value : Half) (elapsed : Nat) : (s.takeSync l value elapsed).routes = s.routes := by
  unfold State.takeSync
  split_ifs <;> simp

theorem checked_routes {cell : Cell} {k : State → State} (h : (k s).routes = s.routes) :
    (s.checked l cell k).routes = s.routes := by
  unfold State.checked
  split
  · exact h
  · simp

@[simp] theorem notUp_routes : (s.notUp l).routes = s.routes := by simp [State.notUp]

theorem takeIdle_routes (cell : Cell) : (s.takeIdle l cell).routes = s.routes := checked_routes s l (report_routes ..)

theorem takeDamaged_routes : (s.takeDamaged l).routes = s.routes := by simp [State.takeDamaged]

theorem takeUnknown_routes : (s.takeUnknown l).routes = s.routes := by simp [State.takeUnknown]

/-! ### The transmitters (R103, R135 to R146) -/

@[simp] theorem sendData_routes (c : ClassId) : (s.sendData l c).routes = s.routes := by
  unfold State.sendData
  split <;> simp

theorem select_routes : (s.select l).routes = s.routes := by
  have roundRobin : (s.sendRoundRobin l).routes = s.routes := by
    unfold State.sendRoundRobin
    dsimp only
    split <;> simp
  unfold State.select
  split
  · simp [State.sendFlow]
  · split
    · simp [State.sendControl]
    · split
      · exact sendData_routes ..
      · exact roundRobin

theorem ready_routes : (s.ready l).routes = s.routes := by
  unfold State.ready
  split
  case h_5 => simp [State.sendTest]
  case h_7 | h_8 => rw [select_routes, countLink_routes]
  all_goals exact hand_routes ..

/-! ### Requests and records that write no route table (R25, R37, R38, R45, R71, R81, R168, R172, R173, R195) -/

theorem judgeRead_routes : (judgeRead f s).state.routes = s.routes := by
  unfold judgeRead
  split
  · rfl
  · split <;> rfl

theorem ClearFrame.routes {t : State} (h : ClearFrame s t) : t.routes = s.routes := by rw [h.rest]

theorem judgeReadClear_routes : (judgeReadClear f s).state.routes = s.routes := by
  unfold judgeReadClear
  split
  · rfl
  · split
    · rfl
    · split
      · rfl
      · exact (clearFrame_foldl ..).routes

theorem judgeWriteOther_routes : (judgeWriteOther f s).state.routes = s.routes := by
  unfold judgeWriteOther
  split <;> rfl

theorem foldl_xoffReevaluateClass_routes (cs : List ClassId) : (cs.foldl State.xoffReevaluateClass s).routes = s.routes :=
  foldl_routes (fun t c => foldl_routes (op := fun u l => u.xoffReevaluate l c) (fun u l => xoffReevaluate_routes u l c) allLinks t) cs s

theorem applyConfig_routes (q : Params) : (s.applyConfig f q).routes = s.routes := by
  have epochs (t : State) : (t.epochWritten f).routes = t.routes := by
    unfold State.epochWritten
    dsimp only
    split_ifs <;> simp
  have congestion (t : State) : (t.congestionWritten f).routes = t.routes := by
    unfold State.congestionWritten
    split <;> simp
  rw [State.applyConfig, epochs, congestion, xoffWritten_eq, foldl_xoffReevaluateClass_routes]

theorem judgeWriteConfig_routes : (judgeWriteConfig f s).state.routes = s.routes := by
  unfold judgeWriteConfig
  split
  · rfl
  · split
    · rfl
    · split
      · rfl
      · split
        · exact applyConfig_routes ..
        · rfl

theorem judgeWritePortMap_routes : (judgeWritePortMap f s).state.routes = s.routes := by
  unfold judgeWritePortMap
  split
  · rfl
  · split
    · rfl
    · split
      · rfl
      · show (s.storePortMap _ _).routes = s.routes
        rw [storePortMap_frame]

theorem judgeWriteMasks_routes : (judgeWriteMasks f s).state.routes = s.routes := by
  unfold judgeWriteMasks
  split <;> rfl

theorem judgeCommit_routes : (judgeCommit f s).state.routes = s.routes := by
  unfold judgeCommit
  split_ifs <;> rfl

theorem judgeCommitNow_routes : (judgeCommitNow f s).state.routes = s.routes := by
  unfold judgeCommitNow
  split_ifs <;> rfl

theorem judgeCancelCommit_routes : (judgeCancelCommit f s).state.routes = s.routes := by
  unfold judgeCancelCommit
  split
  · rfl
  · exact endCommit_routes ..

theorem judgeLinkEnable_routes : (judgeLinkEnable f s).state.routes = s.routes := by
  unfold judgeLinkEnable
  split
  · rfl
  · split <;> rfl

theorem judgeLinkDisableNow_routes : (judgeLinkDisableNow f s).state.routes = s.routes := by
  unfold judgeLinkDisableNow
  split
  · rfl
  · split
    · exact disableNow_routes ..
    · rfl

theorem judgeLinkDisableDrain_routes : (judgeLinkDisableDrain f s).state.routes = s.routes := by
  unfold judgeLinkDisableDrain
  split
  · rfl
  · exact disableDrain_routes ..

theorem judgeLinkTest_routes : (judgeLinkTest f s).state.routes = s.routes := by
  unfold judgeLinkTest
  split
  · rfl
  · split <;> rfl

theorem judgeCloseConfig_routes : (judgeCloseConfig f s).state.routes = s.routes := by
  unfold judgeCloseConfig
  split <;> rfl

theorem judgeEnableRecord_routes : (judgeEnableRecord f s).state.routes = s.routes := by
  unfold judgeEnableRecord
  split
  · rfl
  · split <;> rfl

theorem judgeDisableRecord_routes : (judgeDisableRecord f s).state.routes = s.routes := by
  unfold judgeDisableRecord
  split
  · rfl
  · split <;> rfl

/-! ### Notices, soft reset and the loader (R69, R179, R185, R195, R197) -/

theorem noticeBoundary_routes : s.noticeBoundary.routes = s.routes := by
  have offered (t : State) (e : Half) : (t.offerNotice e).routes = t.routes := by
    unfold State.offerNotice
    split
    · rfl
    · split <;> rfl
  unfold State.noticeBoundary
  split
  · rfl
  · rw [offered]

theorem serveSoftReset_routes : s.serveSoftReset.routes = s.routes := by
  unfold State.serveSoftReset
  split
  · rfl
  · split <;> rfl

theorem countRecord_routes (status : Status) : (s.countRecord status).routes = s.routes := by
  unfold State.countRecord
  split <;> rfl

/-- R69, R197: the withdrawal at a boot failure writes every entry anew. -/
theorem bootFailure_routes (cause : BootCause) : (s.bootFailure cause).routes = RouteStore.reset := by
  unfold State.bootFailure State.enableAll
  dsimp only
  rw [mapPorts_routes, withdraw_eq, evalCongestion_routes, foldl_xoffReevaluateClass_routes]
  rfl

end Sys2Proof.Machine
end

section
/-! SUPPORT. Every step keeps the route store sound (Sys2Proof/Safety.lean; spec/03_route_sets_and_cell_resolution.md, R49, R53, R57). -/

namespace Sys2Proof.Machine

variable {s t u : State} {l : LinkId} {f : Fields}

/-- From `s` to `t` the route store stays sound. -/
structure RoutesKept (s t : State) : Prop where
  sound : s.routes.Sound → t.routes.Sound

theorem RoutesKept.refl (s : State) : RoutesKept s s := ⟨id⟩

theorem RoutesKept.trans (h : RoutesKept s t) (k : RoutesKept t u) : RoutesKept s u := ⟨k.sound ∘ h.sound⟩

theorem RoutesKept.of_eq (h : t.routes = s.routes) : RoutesKept s t := ⟨fun hs => h ▸ hs⟩

theorem RoutesKept.of_reset (h : t.routes = RouteStore.reset) : RoutesKept s t := ⟨fun _ => h ▸ sound_routeStore_reset⟩

/-! ### Bad marks, firing and the scrub (R58, R63, R77, R86) -/

theorem routesKept_markDest (s : State) (d : Dcn) : RoutesKept s (s.markDest d) := ⟨(·.marks _ _)⟩

theorem routesKept_markGroup (s : State) (g : GroupId) : RoutesKept s (s.markGroup g) := ⟨(·.marks _ _)⟩

theorem routesKept_scrubOne (s : State) : RoutesKept s s.scrubOne := by
  rw [scrubOne_frame]
  exact ⟨(·.marks _ _)⟩

theorem routesKept_scrubVisits (n : Nat) (s : State) : RoutesKept s (State.scrubVisits n s) := by
  induction n generalizing s with
  | zero => exact .refl s
  | succ n ih => exact (routesKept_scrubOne s).trans (ih _)

theorem routesKept_fire (s : State) (q : CommitRequest) (e : Half) : RoutesKept s (s.fire q e) := by
  rw [fire_frame]
  exact ⟨(·.fire q.stage)⟩

theorem routesKept_walkOne (s : State) : RoutesKept s s.walkOne := by
  unfold State.walkOne
  split
  · split <;> exact .of_eq rfl
  all_goals exact .refl s

theorem routesKept_completeWalk (s : State) : RoutesKept s s.completeWalk := by
  unfold State.completeWalk
  split
  · exact .of_eq (endCommit_routes ..)
  · split_ifs
    · exact .refl s
    · exact routesKept_fire ..
    · exact .of_eq rfl
  all_goals exact .refl s

theorem routesKept_commitAtBoundary (s : State) (b : Boundary) : RoutesKept s (s.commitAtBoundary b) := by
  cases h : s.commit.state with
  | idle => rw [commitAtBoundary_idle h]; exact .refl s
  | checking q n x =>
    rw [commitAtBoundary_checking h]
    split
    · exact .refl s
    · exact .of_eq (endCommit_routes ..)
  | armed q =>
    rw [commitAtBoundary_armed h]
    split_ifs
    · exact .of_eq (endCommit_routes ..)
    · exact routesKept_fire ..
    · exact .refl s
    · exact .of_eq (endCommit_routes ..)

theorem routesKept_commitBoundary (s : State) : RoutesKept s s.commitBoundary := by
  unfold State.commitBoundary
  split
  · exact .refl s
  · exact .trans (.of_eq (modCommit_routes ..)) ((routesKept_commitAtBoundary ..).trans (routesKept_scrubVisits ..))

/-! ### Resolution (R57, R61 to R66) -/

theorem routesKept_advancePointer (s : State) (d : Dcn) : RoutesKept s (s.advancePointer d) :=
  ⟨(sound_advancePointer · d)⟩

theorem routesKept_resolveUnicast (s : State) (arrival : LinkId) (c : ClassId) (cell : Cell) (d : Dcn) :
    RoutesKept s (s.resolveUnicast arrival c cell d) := by
  unfold State.resolveUnicast
  split
  · exact .of_eq (countLink_routes ..)
  · exact (routesKept_markDest s d).trans (.of_eq (countLink_routes ..))
  · exact .of_eq (countLink_routes ..)
  · split
    · exact (routesKept_advancePointer s d).trans (.of_eq (admitUnicast_routes ..))
    · exact .of_eq (countLink_routes ..)

theorem routesKept_resolveMember (arrival : LinkId) (echo : Bool) (a : Resolving) (d : Dcn) :
    RoutesKept a.state (resolveMember arrival echo a d).state := by
  unfold resolveMember
  split
  · exact .of_eq (countLink_routes ..)
  · exact .of_eq (countLink_routes ..)
  · exact (routesKept_markDest a.state d).trans (.of_eq (countLink_routes ..))
  · split
    · exact .refl a.state
    · split
      · exact routesKept_advancePointer a.state d
      · exact .of_eq (countLink_routes ..)

theorem routesKept_foldl_resolveMember (arrival : LinkId) (echo : Bool) (ds : List Dcn) (a : Resolving) :
    RoutesKept a.state (ds.foldl (resolveMember arrival echo) a).state := by
  induction ds generalizing a with
  | nil => exact .refl a.state
  | cons d rest ih => exact (routesKept_resolveMember arrival echo a d).trans (ih _)

theorem routesKept_resolveMulticast (s : State) (arrival : LinkId) (c : ClassId) (cell : Cell) (g : GroupId) :
    RoutesKept s (s.resolveMulticast arrival c cell g) := by
  have members : RoutesKept s (s.resolveMembers arrival g).state :=
    routesKept_foldl_resolveMember arrival _ _ { state := s, targets := [] }
  unfold State.resolveMulticast
  split
  · exact .of_eq (countLink_routes ..)
  · exact (routesKept_markGroup s g).trans (.of_eq (countLink_routes ..))
  · exact .of_eq (countLink_routes ..)
  · dsimp only
    split
    · exact members.trans (.of_eq (countLink_routes ..))
    · exact members.trans (.of_eq (admitMulticast_routes ..))

theorem routesKept_takeDataU (s : State) (l : LinkId) (cell : Cell) : RoutesKept s (s.takeDataU l cell) := by
  unfold State.takeDataU
  split
  · exact routesKept_resolveUnicast ..
  · exact .of_eq (countLink_routes ..)

theorem routesKept_takeDataM (s : State) (l : LinkId) (cell : Cell) : RoutesKept s (s.takeDataM l cell) := by
  unfold State.takeDataM
  split
  · exact routesKept_resolveMulticast ..
  · exact .of_eq (countLink_routes ..)

/-- A received cell, by the state of its link (R16). -/
theorem routesKept_receive {onTest onQualify onService : State → State} (ht : RoutesKept s (onTest s))
    (hq : ∀ t, RoutesKept t (onQualify t)) (hs : ∀ t, RoutesKept t (onService t)) :
    RoutesKept s (s.receive l onTest onQualify onService) := by
  have counted : RoutesKept s (s.countLink l .rxCells) := .of_eq (countLink_routes ..)
  unfold State.receive
  split
  · exact ht
  · exact counted.trans (hq _)
  · exact counted.trans (hs _)
  · exact counted.trans (hs _)
  all_goals exact .refl s

/-! ### WRITE of the route tables (R53 to R55, R80) -/

theorem possible_parsedDests {set : RouteSetId} {es : List DestContents} (h : f.parsed (.dest set) parseDest = some es) :
    ∀ e ∈ es, DestPossible e := by
  intro e he
  obtain ⟨k, -, hk⟩ := List.mem_map.1 (mem_of_allSome h he)
  exact possible_parseDest hk

theorem possible_parsedGroups {set : RouteSetId} {es : List GroupContents} (h : f.parsed (.group set) parseGroup = some es) :
    ∀ e ∈ es, GroupPossible e := by
  intro e he
  obtain ⟨k, -, hk⟩ := List.mem_map.1 (mem_of_allSome h he)
  exact possible_parseGroup hk

theorem routesKept_storeDests (set : RouteSetId) {es : List DestContents} (h : ∀ e ∈ es, DestPossible e) (s : State) (i : Nat) :
    RoutesKept s (s.storeDests set i es) := by
  induction es generalizing s i with
  | nil => exact .refl s
  | cons e rest ih =>
    unfold State.storeDests
    split
    · exact .trans ⟨(·.writeDest (h e (List.mem_cons_self ..)))⟩ (ih (fun x hx => h x (List.mem_cons_of_mem _ hx)) _ _)
    · exact .refl s

theorem routesKept_storeGroups (set : RouteSetId) {es : List GroupContents} (h : ∀ e ∈ es, GroupPossible e) (s : State) (i : Nat) :
    RoutesKept s (s.storeGroups set i es) := by
  induction es generalizing s i with
  | nil => exact .refl s
  | cons e rest ih =>
    unfold State.storeGroups
    split
    · exact .trans ⟨(·.writeGroup (h e (List.mem_cons_self ..)))⟩ (ih (fun x hx => h x (List.mem_cons_of_mem _ hx)) _ _)
    · exact .refl s

theorem routesKept_judgeRouteContents (f : Fields) (s : State) (o : Object) :
    RoutesKept s (judgeRouteContents f s o).state := by
  unfold judgeRouteContents
  split
  · split <;> rename_i h
    · exact .refl s
    · exact routesKept_storeDests _ (possible_parsedDests h) ..
  · split <;> rename_i h
    · exact .refl s
    · exact routesKept_storeGroups _ (possible_parsedGroups h) ..
  all_goals exact .refl s

theorem routesKept_judgeWriteStage (f : Fields) (s : State) : RoutesKept s (judgeWriteStage f s).state := by
  unfold judgeWriteStage
  split
  · exact .refl s
  · split
    · exact .refl s
    · split
      · exact .of_eq (latch_routes ..)
      · exact routesKept_judgeRouteContents ..

theorem routesKept_judgeWriteActive (f : Fields) (s : State) : RoutesKept s (judgeWriteActive f s).state := by
  unfold judgeWriteActive
  split
  · exact .refl s
  · split
    · exact .refl s
    · split
      · exact .refl s
      · exact routesKept_judgeRouteContents ..

theorem routesKept_serve {kind : ServiceKind} {judge : Fields → State → Served}
    (h : ∀ f u, RoutesKept u (judge f u).state) (s : State) : RoutesKept s (serve kind judge s) := by
  unfold serve
  split
  · exact .refl s
  · split
    · exact .trans (.of_eq (dropRequest_routes ..)) ((h ..).trans (.of_eq (respond_routes ..)))
    · exact .refl s

/-! ### The boot loader (R194 to R197) -/

theorem routesKept_bootFailure (s : State) (cause : BootCause) : RoutesKept s (s.bootFailure cause) :=
  .of_reset (bootFailure_routes s cause)

theorem routesKept_judgeRecord (f : Fields) (s : State) : RoutesKept s (judgeRecord f s).state := by
  unfold judgeRecord
  split
  · unfold judgeWrite
    split
    · exact .of_eq (judgeWriteConfig_routes ..)
    · exact .of_eq (judgeWritePortMap_routes ..)
    · exact routesKept_judgeWriteStage f s
    · exact routesKept_judgeWriteActive f s
    · exact .of_eq (judgeWriteMasks_routes ..)
    all_goals exact .of_eq (judgeWriteOther_routes ..)
  · exact .of_eq (judgeEnableRecord_routes ..)
  · exact .of_eq (judgeDisableRecord_routes ..)
  · exact .of_eq (judgeCloseConfig_routes ..)
  all_goals exact .refl s

theorem routesKept_applyRecord (s : State) (f : Fields) (len : Nat) : RoutesKept s (s.applyRecord f len) :=
  (routesKept_judgeRecord f s).trans (.of_eq (countRecord_routes ..))

theorem routesKept_applyRecords (n : Nat) (s : State) : RoutesKept s (State.applyRecords n s) := by
  induction n generalizing s with
  | zero => exact .refl s
  | succ n ih =>
    unfold State.applyRecords
    split
    · exact .of_eq rfl
    · dsimp only
      split
      · exact routesKept_bootFailure ..
      · split
        · exact .refl s
        · split
          · exact routesKept_bootFailure ..
          · split
            · exact routesKept_bootFailure ..
            · split
              · exact .refl s
              · exact (routesKept_applyRecord ..).trans (ih _)

theorem routesKept_passOne (s : State) : RoutesKept s s.passOne := by
  unfold State.passOne
  dsimp only
  split_ifs
  · exact .refl s
  · exact routesKept_bootFailure ..
  · exact .refl s
  · exact routesKept_bootFailure ..
  · exact routesKept_bootFailure ..
  · exact .of_eq (modBoot_routes ..)

theorem routesKept_takeBytes (s : State) (bytes : List Byte) : RoutesKept s (s.takeBytes bytes) := by
  have taken : RoutesKept s (s.modBoot fun b => { b with image := b.image ++ bytes, arbRun := 0 }) :=
    .of_eq (modBoot_routes ..)
  unfold State.takeBytes
  dsimp only
  split
  · exact taken.trans (routesKept_passOne _)
  · exact taken.trans (routesKept_applyRecords ..)
  all_goals exact .refl s

theorem routesKept_loseArbitration (s : State) : RoutesKept s s.loseArbitration := by
  unfold State.loseArbitration
  dsimp only
  split
  · exact .of_reset (bootFailure_routes ..)
  · exact .of_eq (modBoot_routes ..)

theorem routesKept_endTransfer (s : State) (r : BusResult) : RoutesKept s (s.endTransfer r) := by
  unfold State.endTransfer
  split
  · cases r with
    | success bytes => exact routesKept_takeBytes s bytes
    | noAck => exact routesKept_bootFailure ..
    | arbitrationLost => exact routesKept_loseArbitration s
  · exact .refl s

/-! ### Commands -/

/-- A command's step keeps the route store sound. -/
def KeepsRoutes (c : State → Host.Outcome State Fault Refusal) : Prop := ∀ s t, c s = .next t → RoutesKept s t

theorem keepsRoutes_next {g : State → State} (h : ∀ s, RoutesKept s (g s)) : KeepsRoutes fun s => .next (g s) := by
  rintro s t e
  obtain rfl := Host.Outcome.next.inj e
  exact h s

theorem keepsRoutes_act {g : State → State} (h : ∀ s, RoutesKept s (g s)) : KeepsRoutes (act g) := by
  refine keepsRoutes_next fun s => ?_
  split
  · exact .refl s
  · exact h s

/-- A command that leaves the route store as it was. -/
theorem keepsRoutes_of_eq {g : State → State} (h : ∀ s, (g s).routes = s.routes) : KeepsRoutes (act g) :=
  keepsRoutes_act fun s => .of_eq (h s)

theorem keepsRoutes_serve {kind : ServiceKind} {judge : Fields → State → Served}
    (h : ∀ f u, RoutesKept u (judge f u).state) : KeepsRoutes (act (serve kind judge)) := keepsRoutes_act (routesKept_serve h)

/-- The service of a request that writes no route table. -/
theorem keepsRoutes_serve_of_eq {kind : ServiceKind} {judge : Fields → State → Served}
    (h : ∀ u f, (judge f u).state.routes = u.routes) : KeepsRoutes (act (serve kind judge)) :=
  keepsRoutes_serve fun f u => .of_eq (h u f)

theorem keepsRoutes_receive {b : Bool} {onTest onQualify onService : State → State} (ht : ∀ s, RoutesKept s (onTest s))
    (hq : ∀ s, RoutesKept s (onQualify s)) (hs : ∀ s, RoutesKept s (onService s)) :
    KeepsRoutes (act fun s => if b then s.receive l onTest onQualify onService else s) := by
  refine keepsRoutes_act fun s => ?_
  split
  · exact routesKept_receive (ht s) hq hs
  · exact .refl s

/-- A received cell that is resolved against no route. -/
theorem keepsRoutes_receive_of_eq {b : Bool} {onTest onQualify onService : State → State}
    (ht : ∀ s, (onTest s).routes = s.routes) (hq : ∀ s, (onQualify s).routes = s.routes)
    (hs : ∀ s, (onService s).routes = s.routes) :
    KeepsRoutes (act fun s => if b then s.receive l onTest onQualify onService else s) :=
  keepsRoutes_receive (fun s => .of_eq (ht s)) (fun s => .of_eq (hq s)) fun s => .of_eq (hs s)

theorem keepsRoutes_transmitReady (l : LinkId) : KeepsRoutes (execTransmitReady l) := by
  refine keepsRoutes_next fun s => .of_eq ?_
  split
  · exact hand_routes ..
  · exact ready_routes s l

theorem keepsRoutes_epochInRisingEdge (elapsed : Nat) : KeepsRoutes (execEpochInRisingEdge elapsed) := by
  refine keepsRoutes_next fun s => .of_eq ?_
  split
  · exact modEpoch_routes ..
  · exact pinRises_routes s elapsed

theorem report_routes_eq {x : State} {r : Report} (h : x.routes = s.routes) : (x.report l r).routes = s.routes :=
  (report_routes ..).trans h

theorem keepsRoutes_exec (i : Instr) : KeepsRoutes (exec i) := by
  cases i with
  | elementReset bootSel id => exact keepsRoutes_next fun s => .of_reset (elementReset_routes s bootSel id)
  | resetNLow => exact keepsRoutes_next fun s => .of_eq rfl
  | dataUReceived l cell =>
    exact keepsRoutes_receive RoutesKept.refl (fun s => .of_eq (notUp_routes s l)) fun s =>
      (routesKept_takeDataU s l cell).trans (.of_eq (report_routes ..))
  | dataMReceived l cell =>
    exact keepsRoutes_receive RoutesKept.refl (fun s => .of_eq (notUp_routes s l)) fun s =>
      (routesKept_takeDataM s l cell).trans (.of_eq (report_routes ..))
  | flowReceived l cell =>
    exact keepsRoutes_receive_of_eq (fun _ => rfl) (notUp_routes · l) fun s =>
      checked_routes s l (report_routes_eq (takeFlow_routes s l cell))
  | mgmtReceived l cell =>
    exact keepsRoutes_receive_of_eq (fun _ => rfl) (notUp_routes · l) fun s =>
      checked_routes s l (report_routes_eq (takeMgmt_routes s l cell))
  | syncReceived l cell elapsed =>
    exact keepsRoutes_receive_of_eq (fun _ => rfl) (notUp_routes · l) fun s =>
      checked_routes s l (report_routes_eq (takeSync_routes s l _ elapsed))
  | idleReceived l cell =>
    exact keepsRoutes_receive_of_eq (fun _ => rfl) (takeIdle_routes · l cell) (takeIdle_routes · l cell)
  | markerReceived l cell =>
    exact keepsRoutes_receive_of_eq (fun _ => rfl) (report_routes · l .marker) (report_routes · l .marker)
  | testReceived l cell => exact keepsRoutes_receive_of_eq (fun _ => rfl) (notUp_routes · l) (report_routes · l .other)
  | damagedCellReceived l cell =>
    exact keepsRoutes_receive_of_eq (fun _ => rfl) (takeDamaged_routes · l) (takeDamaged_routes · l)
  | unknownTypeReceived l cell =>
    exact keepsRoutes_receive_of_eq (fun _ => rfl) (takeUnknown_routes · l) (takeUnknown_routes · l)
  | storageUpset x => exact keepsRoutes_act fun s => ⟨(·.upset x)⟩
  | lossTimerExpiry l => exact keepsRoutes_of_eq (lossExpiry_routes · l)
  | gapTimerExpiry => exact keepsRoutes_of_eq gapExpiry_routes
  | timerBoundary => exact keepsRoutes_of_eq timerBoundary_routes
  | holdoverBoundary => exact keepsRoutes_of_eq holdoverBoundary_routes
  | epochInRisingEdge elapsed => exact keepsRoutes_epochInRisingEdge elapsed
  | epochInFallingEdge => exact keepsRoutes_next fun s => .of_eq (modEpoch_routes ..)
  | stuckTimerExpiry => exact keepsRoutes_of_eq stuckExpiry_routes
  | epochOutFall => exact keepsRoutes_of_eq (modEpoch_routes · _)
  | linkBoundaryWork l => exact keepsRoutes_of_eq (linkBoundary_routes · l)
  | drainLimit l => exact keepsRoutes_of_eq (drainAtLimit_routes · l)
  | holdDownEnd l => exact keepsRoutes_of_eq (endHoldDown_routes · l)
  | commitBoundary => exact keepsRoutes_act routesKept_commitBoundary
  | refresh => exact keepsRoutes_of_eq refreshFlow_routes
  | noticeBoundary => exact keepsRoutes_of_eq noticeBoundary_routes
  | walkExamination => exact keepsRoutes_act routesKept_walkOne
  | checkCompletion => exact keepsRoutes_act routesKept_completeWalk
  | flushRemoval l => exact keepsRoutes_of_eq (flushOne_routes · l)
  | flushCompletion l => exact keepsRoutes_of_eq (flushEnd_routes · l)
  | transmitReady l => exact keepsRoutes_transmitReady l
  | read => exact keepsRoutes_serve_of_eq judgeRead_routes
  | readClear => exact keepsRoutes_serve_of_eq judgeReadClear_routes
  | write => exact keepsRoutes_serve_of_eq judgeWriteOther_routes
  | writeConfig => exact keepsRoutes_serve_of_eq judgeWriteConfig_routes
  | writePortMap => exact keepsRoutes_serve_of_eq judgeWritePortMap_routes
  | writeStage => exact keepsRoutes_serve routesKept_judgeWriteStage
  | writeActive => exact keepsRoutes_serve routesKept_judgeWriteActive
  | writeMasks => exact keepsRoutes_serve_of_eq judgeWriteMasks_routes
  | commit => exact keepsRoutes_serve_of_eq judgeCommit_routes
  | commitNow => exact keepsRoutes_serve_of_eq judgeCommitNow_routes
  | cancelCommit => exact keepsRoutes_serve_of_eq judgeCancelCommit_routes
  | linkEnable => exact keepsRoutes_serve_of_eq judgeLinkEnable_routes
  | linkDisableNow => exact keepsRoutes_serve_of_eq judgeLinkDisableNow_routes
  | linkDisableDrain => exact keepsRoutes_serve_of_eq judgeLinkDisableDrain_routes
  | linkTest => exact keepsRoutes_serve_of_eq judgeLinkTest_routes
  | closeConfig => exact keepsRoutes_serve_of_eq judgeCloseConfig_routes
  | setEpoch | echo | unknownCommand => exact keepsRoutes_serve_of_eq fun _ _ => rfl
  | softReset => exact keepsRoutes_of_eq serveSoftReset_routes
  | busTransferEnd r => exact keepsRoutes_act (routesKept_endTransfer · r)
  | transferRepeat => exact keepsRoutes_of_eq (modBoot_routes · _)
  | signalLost l | signalRestored l | alignmentGained l | alignmentLost l | blankTimerExpiry l | flapClear l =>
    exact keepsRoutes_of_eq (modUnit_routes · l _)

/-! ### Steps -/

theorem routesKept_step (h : step s = .next t) : RoutesKept s t := by
  unfold step at h
  split at h
  · unfold idleStep at h
    split at h
    · exact keepsRoutes_next RoutesKept.refl s t h
    · split at h
      · exact keepsRoutes_exec _ s t h
      · exact keepsRoutes_next (g := State.tick) (fun s => .of_eq rfl) s t h
  next c rest _ =>
    have waits : RoutesKept s { s with pending := rest } := .of_eq rfl
    exact waits.trans (keepsRoutes_exec c _ t h)

/-- Settles O57: every command leaves the route store, or writes it as `RouteStore.Sound` allows. -/
theorem stepsKeepTheRoutesSound : Obligations.StepsKeepTheRoutesSound := fun _ _ hs h =>
  routesSound_iff.2 ((routesKept_step h).sound (routesSound_iff.1 hs))

end Sys2Proof.Machine
end

section
/-! SUPPORT. The check walk, its completion and the firing of a commit (spec/04_staging_commit_and_route_integrity.md, R72, R73, R77,
R78, R82, R83; spec/10_flags_notices_and_counters.md, R184). -/

namespace Sys2Proof.Machine

variable {s : State} {q : CommitRequest}

/-! ### The check walk (R72) -/

/-- R72: the examination of the entry at the position of the walk, whichever table it stands in. -/
theorem exec_walkExamination {n : Nat} {e : RoutePos} (hr : s.inReset = false) (h : s.commit.state = .checking q n none)
    (he : routePos n = some e) :
    exec .walkExamination s =
      .next (s.modCommit fun u =>
        { u with state := .checking q (n + 1) (if (s.routes.get q.stage.set).passes e then none else some e) }) := by
  have walked : exec .walkExamination s = .next s.walkOne := act_run _ hr
  simp only [walked, State.walkOne, h, he]

/-! ### Check completion (R73) -/

theorem exec_checkCompletion (hr : s.inReset = false) : exec .checkCompletion s = .next s.completeWalk := act_run _ hr

theorem completeWalk_failed {n : Nat} {e : RoutePos} (h : s.commit.state = .checking q n (some e)) :
    s.completeWalk = s.endCommit q (.checkFailed e) s.epoch.count := by
  simp only [State.completeWalk, h]

/-- R73: all 632 entries have passed. -/
theorem completeWalk_passed (h : s.commit.state = .checking q Config.routePositions none) :
    s.completeWalk = if q.now then s.fire q s.epoch.count else s.modCommit fun u => { u with state := .armed q } := by
  simp only [State.completeWalk, h, Nat.lt_irrefl, if_false]

/-! ### Firing (R77, R78) -/

theorem changeNotice_ports (s : State) :
    s.changeNotice.ports = if s.flow.gapTimer = none then s.ports.map Port.markFlowDue else s.ports := by
  unfold State.changeNotice
  split <;> rename_i h
  · rw [if_pos h]; rfl
  · rw [if_neg (by simp [h])]

/-- R120: a change notice reads nothing but the links, the flow unit and FLOW_GAP. -/
theorem changeNotice_congr {s t : State} (hp : t.ports = s.ports) (hf : t.flow = s.flow) (ha : t.agent = s.agent) :
    t.changeNotice.ports = s.changeNotice.ports ∧ t.changeNotice.flow = s.changeNotice.flow := by
  rw [changeNotice_ports, changeNotice_ports, changeNotice_flow, changeNotice_flow, State.param, State.param, hp, hf, ha]
  exact ⟨rfl, rfl⟩

/-- R82, R184: of the steps of a firing, only the latching of COMMIT_DONE concerns the notice unit. -/
theorem fire_notice (s : State) (q : CommitRequest) (e : Half) : (s.fire q e).notice = (s.latch .commitDone).notice := by
  rw [State.fire, changeNotice_frame]; rfl

/-- R77: the change notice of a firing is the one that the state before it takes. -/
theorem fire_changeNotice (s : State) (q : CommitRequest) (e : Half) :
    (s.fire q e).ports = s.changeNotice.ports ∧ (s.fire q e).flow = s.changeNotice.flow := by
  unfold State.fire
  apply changeNotice_congr <;> rw [endCommit_frame] <;> rfl

/-- R77, R78: what a firing stores in the route store. -/
theorem fire_routes (s : State) (q : CommitRequest) (e : Half) :
    (s.fire q e).routes = s.routes.fire q.stage := by
  rw [fire_frame]

/-- Settles O33: an examination by the entry at its position, the completion by the commit's request, and the firing by the steps
that `State.fire` takes. -/
theorem checkWalkAndFiring : Obligations.CheckWalkAndFiring := by
  refine ⟨⟨rfl, rfl⟩, fun s q hr => ⟨fun n h => ⟨fun d hn => ?_, fun g hn => ?_⟩, fun n e h => ?_, fun h hn => ?_, fun h hn => ?_⟩,
    fun s q e t ht => ?_⟩
  · exact exec_walkExamination hr h (hn ▸ routePos_dest d)
  · exact exec_walkExamination hr h (hn ▸ routePos_group g)
  · rw [exec_checkCompletion hr, completeWalk_failed h]; rfl
  · rw [exec_checkCompletion hr, completeWalk_passed h, if_pos hn]
  · rw [exec_checkCompletion hr, completeWalk_passed h, if_neg (ne_true_of_eq_false hn)]; rfl
  · obtain ⟨ports, flow⟩ := fire_changeNotice s q e
    have notice := fire_notice s q e
    have done : (s.fire q e).elementFlag .commitDone = true := by
      rw [State.elementFlag, notice]; exact elementFlag_latch_self s .commitDone
    subst ht
    refine ⟨?_, ?_, ?_, fun d => ?_, fun g => ?_, ?_, done, notice, flow, ports, ?_⟩
    · rw [fire_routes, RouteStore.fire]; cases q.stage <;> rfl
    · rw [fire_routes]; rfl
    · rw [fire_routes]; rfl
    · rw [fire_routes]; simp [RouteStore.fire]
    · rw [fire_routes]; simp [RouteStore.fire]
    · rw [fire_frame]
    · rw [fire_frame]; exact ⟨rfl, rfl, rfl, rfl, rfl⟩

end Sys2Proof.Machine
end

section
/-! SUPPORT. COMMIT and CANCEL_COMMIT as requests (spec/04_staging_commit_and_route_integrity.md, R71, R81 to R83;
spec/09_management_requests.md, R166). -/

namespace Sys2Proof.Machine

variable {s : State} {q : CommitRequest}

/-! ### Which row serves a request, and its judgement (R71, R81) -/

section
variable {f : Fields}

theorem kind_commit (h : f.command = 0x10) (hn : f.arg.getLsbD 1 = false) : f.kind = .commit := by
  rw [Fields.kind, h]; exact if_neg (ne_true_of_eq_false hn)

theorem kind_commitNow (h : f.command = 0x10) (hn : f.arg.getLsbD 1 = true) : f.kind = .commitNow := by
  rw [Fields.kind, h]; exact if_pos hn

theorem kind_cancelCommit (h : f.command = 0x11) : f.kind = .cancelCommit := by rw [Fields.kind, h]; rfl

theorem judgeCommit_busy (h : s.commit.state ≠ .idle) : judgeCommit f s = refuse s .busy := if_pos h

theorem judgeCommit_late (h : s.commit.state = .idle) (ha : ahead f.index s.epoch.count = false) :
    judgeCommit f s = refuse s .late :=
  (if_neg (not_not_intro h)).trans (if_neg (ne_true_of_eq_false ha))

theorem judgeCommit_ahead (h : s.commit.state = .idle) (ha : ahead f.index s.epoch.count = true) :
    judgeCommit f s = taken (s.startCommit { stage := f.stage, now := false, target := f.index }) :=
  (if_neg (not_not_intro h)).trans (if_pos ha)

theorem judgeCommitNow_busy (h : s.commit.state ≠ .idle) : judgeCommitNow f s = refuse s .busy := if_pos h

theorem judgeCommitNow_idle (h : s.commit.state = .idle) :
    judgeCommitNow f s = taken (s.startCommit { stage := f.stage, now := true, target := 0 }) :=
  if_neg (not_not_intro h)

theorem judgeCancelCommit_none (h : s.commit.state.inProgress = none) : judgeCancelCommit f s = refuse s .notActive := by
  simp only [judgeCancelCommit, h]

theorem judgeCancelCommit_some (h : s.commit.state.inProgress = some q) :
    judgeCancelCommit f s = taken (s.endCommit q .cancelled s.epoch.count) := by
  simp only [judgeCancelCommit, h]

/-- R70: a commit is in progress in ARMED and in CHECKING. -/
theorem inProgress_eq_some {x : CommitState} (h : x = .armed q ∨ ∃ n e, x = .checking q n e) : x.inProgress = some q := by
  obtain rfl | ⟨n, e, rfl⟩ := h <;> rfl

end

/-! ### The rows, by what the judgement `v` of the request comes to (R166) -/

section
variable {r : Request} {rest : List Request} {v : Served} (hr : s.inReset = false) (hq : s.agent.requests = r :: rest)
include hr hq

theorem exec_commit (hc : r.fields.command = 0x10) (hn : r.fields.arg.getLsbD 1 = false)
    (hv : judgeCommit r.fields (s.dropRequest rest) = v) :
    exec .commit s = .next (v.state.respond r v.status v.data) :=
  (act_run _ hr : execCommit s = _).trans (congrArg _ (serve_head_eq hq (kind_commit hc hn) hv))

theorem exec_commitNow (hc : r.fields.command = 0x10) (hn : r.fields.arg.getLsbD 1 = true)
    (hv : judgeCommitNow r.fields (s.dropRequest rest) = v) :
    exec .commitNow s = .next (v.state.respond r v.status v.data) :=
  (act_run _ hr : execCommitNow s = _).trans (congrArg _ (serve_head_eq hq (kind_commitNow hc hn) hv))

theorem exec_cancelCommit (hc : r.fields.command = 0x11) (hv : judgeCancelCommit r.fields (s.dropRequest rest) = v) :
    exec .cancelCommit s = .next (v.state.respond r v.status v.data) :=
  (act_run _ hr : execCancelCommit s = _).trans (congrArg _ (serve_head_eq hq (kind_cancelCommit hc) hv))

end

/-- Settles O35: each request by its judgement in the state that its removal from the queue leaves. -/
theorem commitRequests : Obligations.CommitRequests := by
  intro s u r rest f hr hq hf hu
  subst hf hu
  refine ⟨fun hc hn => ⟨fun h => ?_, fun h ha => ?_, fun h ha => ?_⟩, fun hc hn => ⟨fun h => ?_, fun h => ?_⟩,
    fun hc => ⟨fun h => ?_, fun q h => ?_⟩⟩
  · exact exec_commit (v := refuse _ _) hr hq hc hn (judgeCommit_busy h)
  · exact exec_commit (v := refuse _ _) hr hq hc hn (judgeCommit_late h ha)
  · exact exec_commit (v := taken _) hr hq hc hn (judgeCommit_ahead h ha)
  · exact exec_commitNow (v := refuse _ _) hr hq hc hn (judgeCommitNow_busy h)
  · exact exec_commitNow (v := taken _) hr hq hc hn (judgeCommitNow_idle h)
  · exact exec_cancelCommit (v := refuse _ _) hr hq hc (judgeCancelCommit_none (congrArg CommitState.inProgress h))
  · exact exec_cancelCommit (v := taken _) hr hq hc (judgeCancelCommit_some (inProgress_eq_some h))

end Sys2Proof.Machine
end

section
/-! SUPPORT. What the cell buffer and the output queues hold (spec/05_cell_buffer_and_output_queues.md, R90 to R93): occupied slots,
F, D and the queued descriptors, and what a change of one queue or of one slot makes of them. -/

namespace Sys2Proof.Machine

variable {s t : State} {l : LinkId} {c : ClassId} {slots : List Slot} {x y : Slot}

/-- R90 to R93: the occupied slots, F, D and the output queues. -/
structure Stock where
  slots : List Slot
  free : Nat
  freeDesc : Nat
  queue : LinkId → ClassId → List Nat

/-- What the buffer and the queues of the element hold. -/
def State.stock (s : State) : Stock where
  slots := s.buffer.slots
  free := s.buffer.free
  freeDesc := s.buffer.freeDesc
  queue l c := (s.port l).queues.lists[c]

/-- R92: every queued descriptor. -/
def Stock.descriptors (k : Stock) : List Nat := allLinks.flatMap fun l => allClasses.flatMap (k.queue l)

/-- R90, R91: the occupied slots stand in rising order, and each has one reference for each descriptor that names it. -/
structure Stock.Matched (k : Stock) : Prop where
  rising : (k.slots.map (·.id)).Pairwise (· < ·)
  refs : ∀ x ∈ k.slots, x.id < 4096 ∧ 1 ≤ x.refs ∧ x.refs = k.descriptors.count x.id
  named : ∀ id ∈ k.descriptors, ∃ x ∈ k.slots, x.id = id

/-- R90 to R92: `State.BufferConserved`, of what the buffer and the queues hold. -/
structure Stock.Conserved (k : Stock) : Prop where
  slots : k.free + k.slots.length = 4096
  descs : k.freeDesc + k.descriptors.length = 8192
  matched : k.Matched

/-- R93. -/
def Stock.Bounded (k : Stock) : Prop := ∀ l c, (k.queue l c).length ≤ 1024

theorem bufferConserved_iff : s.BufferConserved ↔ s.stock.Conserved :=
  ⟨fun ⟨hs, hd, hr, hx, hn⟩ => ⟨hs, hd, hr, hx, hn⟩,
    fun ⟨hs, hd, hr, hx, hn⟩ => ⟨hs, hd, hr, hx, hn⟩⟩

theorem queuesBounded_iff : s.QueuesBounded ↔ s.stock.Bounded := Iff.rfl

/-! ### One queue changed -/

/-- Of lists put together, one replaced by another. -/
theorem flatMap_perm_of_ne {α β : Type} [DecidableEq α] [DecidableEq β] {as : List α} {a : α} {f g : α → List β}
    (hn : as.Nodup) (ha : a ∈ as) (h : ∀ b, b ≠ a → g b = f b) :
    (f a ++ as.flatMap g).Perm (g a ++ as.flatMap f) := by
  have others : (as.erase a).flatMap g = (as.erase a).flatMap f :=
    List.flatMap_congr fun b hb => h b (hn.mem_erase_iff.1 hb).1
  have split (u : α → List β) : (as.flatMap u).Perm (u a ++ (as.erase a).flatMap u) :=
    (List.perm_cons_erase ha).flatMap_right u
  refine List.perm_iff_count.2 fun b => ?_
  have hf := (split f).count_eq b
  have hg := (split g).count_eq b
  rw [others] at hg
  simp only [List.count_append] at hf hg ⊢
  omega

/-- One queue replaced by another: so are its descriptors among all descriptors. -/
theorem descriptors_perm {j k : Stock} {before after : List Nat} (hj : j.queue l c = before) (hk : k.queue l c = after)
    (h : ∀ m d, m ≠ l ∨ d ≠ c → k.queue m d = j.queue m d) :
    (before ++ k.descriptors).Perm (after ++ j.descriptors) := by
  subst hj hk
  have ofLink := flatMap_perm_of_ne (as := allClasses) (f := j.queue l) (g := k.queue l) (by decide) (mem_allClasses c)
    fun d hd => h l d (.inr hd)
  have ofAll := flatMap_perm_of_ne (as := allLinks) (f := fun m => allClasses.flatMap (j.queue m))
    (g := fun m => allClasses.flatMap (k.queue m)) (List.nodup_finRange 64) (List.mem_finRange l)
    fun m hm => List.flatMap_congr fun d _ => h m d (.inl hm)
  refine List.perm_iff_count.2 fun id => ?_
  have hl := ofLink.count_eq id
  have ha := ofAll.count_eq id
  simp only [List.count_append] at hl ha ⊢
  unfold Stock.descriptors
  omega

/-! ### One slot (R90, R91) -/

/-- In a rising list a number names one slot. -/
theorem eq_of_id_eq (hr : (slots.map (·.id)).Pairwise (· < ·)) (hx : x ∈ slots) (hy : y ∈ slots) (h : x.id = y.id) : x = y :=
  List.inj_on_of_nodup_map (hr.imp ne_of_lt) hx hy h

theorem findSlot_of_mem (hr : (slots.map (·.id)).Pairwise (· < ·)) (hx : x ∈ slots) : findSlot slots x.id = some x := by
  cases h : findSlot slots x.id with
  | none => simpa using List.find?_eq_none.1 h x hx
  | some y =>
    have hid : y.id = x.id := by simpa using List.find?_some h
    exact congrArg some (eq_of_id_eq hr (List.mem_of_find?_eq_some h) hx hid)

theorem lowerRefs_ids_sublist (id : Nat) (slots : List Slot) :
    ((lowerRefs id slots).map (·.id)).Sublist (slots.map (·.id)) := by
  induction slots with
  | nil => exact .slnil
  | cons y rest ih =>
    unfold lowerRefs
    split_ifs
    · exact List.sublist_cons_self ..
    · exact .refl _
    · exact ih.cons_cons _

/-- R91: of a slot with more than one reference, one goes. -/
theorem lowerRefs_shared (hr : (slots.map (·.id)).Pairwise (· < ·)) (hx : x ∈ slots) (h : 1 < x.refs) :
    (lowerRefs x.id slots).length = slots.length ∧
      ∀ y, y ∈ lowerRefs x.id slots ↔ (y ∈ slots ∧ y.id ≠ x.id) ∨ y = { x with refs := x.refs - 1 } := by
  induction slots with
  | nil => exact absurd hx List.not_mem_nil
  | cons z rest ih =>
    rw [List.map_cons, List.pairwise_cons] at hr
    obtain ⟨hz, hrest⟩ := hr
    have above : ∀ y ∈ rest, z.id < y.id := fun y hy => hz _ (List.mem_map_of_mem hy)
    unfold lowerRefs
    rcases List.mem_cons.1 hx with rfl | hx
    · rw [if_pos rfl, if_neg (Nat.not_le.2 h)]
      refine ⟨rfl, fun y => ?_⟩
      have := fun hy : y ∈ rest => (above y hy).ne'
      simp only [List.mem_cons]
      grind
    · have hne := (above x hx).ne
      obtain ⟨hlen, hmem⟩ := ih hrest hx
      rw [if_neg hne]
      refine ⟨congrArg (· + 1) hlen, fun y => ?_⟩
      simp only [List.mem_cons, hmem]
      grind

/-- R91: a slot with one reference goes with it. -/
theorem lowerRefs_last (hr : (slots.map (·.id)).Pairwise (· < ·)) (hx : x ∈ slots) (h : x.refs ≤ 1) :
    (lowerRefs x.id slots).length + 1 = slots.length ∧ ∀ y, y ∈ lowerRefs x.id slots ↔ y ∈ slots ∧ y.id ≠ x.id := by
  induction slots with
  | nil => exact absurd hx List.not_mem_nil
  | cons z rest ih =>
    rw [List.map_cons, List.pairwise_cons] at hr
    obtain ⟨hz, hrest⟩ := hr
    have above : ∀ y ∈ rest, z.id < y.id := fun y hy => hz _ (List.mem_map_of_mem hy)
    unfold lowerRefs
    rcases List.mem_cons.1 hx with rfl | hx
    · rw [if_pos rfl, if_pos h]
      refine ⟨rfl, fun y => ?_⟩
      have := fun hy : y ∈ rest => (above y hy).ne'
      simp only [List.mem_cons]
      grind
    · have hne := (above x hx).ne
      obtain ⟨hlen, hmem⟩ := ih hrest hx
      rw [if_neg hne]
      refine ⟨congrArg (· + 1) hlen, fun y => ?_⟩
      simp only [List.mem_cons, hmem]
      grind

end Sys2Proof.Machine
end

section
/-! SUPPORT. Admissions and removals as changes of what the buffer and the queues hold
(spec/05_cell_buffer_and_output_queues.md, R90 to R93, R97, R99, R103, R110). -/

namespace Sys2Proof.Machine

variable {s t : State} {l m : LinkId} {c d : ClassId} {k : Stock} {id : Nat} {rest : List Nat} {targets : List Target}

/-! ### The changes -/

/-- R90: one slot is taken for a cell. -/
def Stock.store (k : Stock) (cell : Cell) (refs : Nat) : Stock :=
  { k with slots := insertSlot { id := lowestFree 0 k.slots, cell := cell, refs := refs } k.slots, free := k.free - 1 }

/-- R92: a descriptor joins the tail of a queue. -/
def Stock.enqueue (k : Stock) (l : LinkId) (c : ClassId) (id : Nat) : Stock :=
  { k with
    freeDesc := k.freeDesc - 1
    queue := fun m d => if m = l ∧ d = c then k.queue m d ++ [id] else k.queue m d }

/-- R97, R99: an admission. -/
def Stock.admitted (k : Stock) (c : ClassId) (cell : Cell) (targets : List Target) : Stock :=
  targets.foldl (fun j l => j.enqueue l c (lowestFree 0 k.slots)) (k.store cell targets.length)

/-- R91: one reference to a slot goes. -/
def Stock.release (k : Stock) (id : Nat) : Stock :=
  match findSlot k.slots id with
  | none => k
  | some x => { k with slots := lowerRefs id k.slots, free := if x.refs ≤ 1 then k.free + 1 else k.free }

/-- R103: the head of a queue is removed. -/
def Stock.dequeue (k : Stock) (l : LinkId) (c : ClassId) (id : Nat) (rest : List Nat) : Stock :=
  { k.release id with
    freeDesc := k.freeDesc + 1
    queue := fun m d => if m = l ∧ d = c then rest else k.queue m d }

/-- R114: nothing is held. -/
def Stock.empty : Stock := { slots := [], free := 4096, freeDesc := 8192, queue := fun _ _ => [] }

/-! ### The element's operations make these changes -/

theorem stock_eq (hs : t.buffer.slots = s.buffer.slots) (hf : t.buffer.free = s.buffer.free)
    (hd : t.buffer.freeDesc = s.buffer.freeDesc) (hq : ∀ m, (t.port m).queues.lists = (s.port m).queues.lists) :
    t.stock = s.stock := by
  simp only [State.stock, hs, hf, hd, hq]

/-- What moves nothing of the links that the invariants read, and leaves the buffer, leaves the stock. -/
theorem Quiet.stock (h : Quiet s t) (hb : t.buffer = s.buffer) : t.stock = s.stock :=
  stock_eq (by rw [hb]) (by rw [hb]) (by rw [hb]) fun m => by rw [(h.port m).queues]

theorem evalCongestion_stock (s : State) : s.evalCongestion.stock = s.stock := by
  have frame := congrArg State.buffer (evalCongestion_frame s)
  exact stock_eq (by rw [frame]) (by rw [frame]) (by rw [frame]) fun m => by rw [((quiet_evalCongestion s).port m).queues]

theorem latchExhaustion_stock (s : State) : s.latchExhaustion.stock = s.stock :=
  (quiet_latchExhaustion s).stock (by rw [latchExhaustion_frame])

theorem append_lists (k : Params) (c : ClassId) (slot : Nat) (p : Port) :
    (p.append k c slot).queues.lists = p.queues.lists.set c (p.queues.lists[c] ++ [slot]) := by
  rw [Port.append, raiseXoff_eq]; rfl

theorem removeHead_lists (k : Params) (c : ClassId) (rest : List Nat) (p : Port) :
    (p.removeHead k c rest).queues.lists = p.queues.lists.set c rest := by
  rw [Port.removeHead, lowerXoff_eq]; rfl

/-- One queue of one link replaced. -/
theorem queue_of_quiet {f : Port → Port} {xs : List Nat} (h : Quiet (s.modPort l f) t)
    (hf : (f (s.port l)).queues.lists = (s.port l).queues.lists.set c xs) (m : LinkId) (d : ClassId) :
    (t.port m).queues.lists[d] = if m = l ∧ d = c then xs else (s.port m).queues.lists[d] := by
  rw [(h.port m).queues, port_modPort]
  by_cases hm : m = l
  · subst hm
    rw [if_pos rfl, hf, getElem_set_fin]
    simp
  · rw [if_neg hm, if_neg fun h => hm h.1]

theorem append_stock (s : State) (l : LinkId) (c : ClassId) (id : Nat) : (s.append l c id).stock = s.stock.enqueue l c id := by
  have frame := congrArg State.buffer (append_frame s l c id)
  have queue := queue_of_quiet (quiet_append s l c id) (append_lists ..)
  simp only [State.stock, Stock.enqueue, Stock.mk.injEq]
  refine ⟨by rw [frame], by rw [frame], by rw [frame], funext fun m => funext fun d => (queue m d).trans ?_⟩
  split <;> rename_i h
  · rw [h.1, h.2]
  · rfl

theorem admitCell_stock (s : State) (c : ClassId) (cell : Cell) (targets : List Target) :
    (s.admitCell c cell targets).stock = s.stock.admitted c cell targets := by
  have appends (ls : List Target) (u : State) (id : Nat) :
      (ls.foldl (fun v l => v.append l c id) u).stock = ls.foldl (fun j l => j.enqueue l c id) u.stock := by
    induction ls generalizing u with
    | nil => rfl
    | cons m rest ih => rw [List.foldl_cons, ih, append_stock, List.foldl_cons]
  unfold State.admitCell
  dsimp only
  rw [latchExhaustion_stock, evalCongestion_stock, appends]
  rfl

theorem release_stock (s : State) (id : Nat) : ({ s with buffer := s.buffer.release id } : State).stock = s.stock.release id := by
  unfold State.stock CellBuffer.release Stock.release
  dsimp only
  cases findSlot s.buffer.slots id <;> rfl

theorem removeHead_stock (s : State) (l : LinkId) (c : ClassId) (id : Nat) (rest : List Nat) :
    (s.removeHead l c id rest).stock = s.stock.dequeue l c id rest := by
  have frame := congrArg State.buffer (removeHead_frame s l c id rest)
  have released := release_stock s id
  have descs : (s.buffer.release id).freeDesc = s.buffer.freeDesc := by
    unfold CellBuffer.release
    split <;> rfl
  have queue := queue_of_quiet (quiet_removeHead s l c id rest) (removeHead_lists ..)
  unfold Stock.dequeue
  rw [← released]
  simp only [State.stock, Stock.mk.injEq]
  exact ⟨by rw [frame], by rw [frame], by rw [frame]; exact congrArg (· + 1) descs, funext fun m => funext fun d => queue m d⟩

/-! ### What an admission makes of the stock -/

theorem foldl_enqueue (targets : List Target) (c : ClassId) (id : Nat) (k : Stock) :
    targets.foldl (fun j l => j.enqueue l c id) k =
      { k with
        freeDesc := k.freeDesc - targets.length
        queue := fun m d => k.queue m d ++ if d = c then List.replicate (targets.count m) id else [] } := by
  induction targets generalizing k with
  | nil => simp
  | cons l rest ih =>
    rw [List.foldl_cons, ih, Stock.enqueue]
    simp only [Stock.mk.injEq, true_and, List.length_cons]
    refine ⟨by omega, funext fun m => funext fun d => ?_⟩
    rcases eq_or_ne d c with rfl | hd
    · rcases eq_or_ne m l with rfl | hm
      · simp [List.replicate_succ]
      · simp [hm, List.count_cons_of_ne hm.symm]
    · simp [hd]

theorem descriptors_enqueue (k : Stock) (l : LinkId) (c : ClassId) (id : Nat) :
    (k.enqueue l c id).descriptors.Perm (id :: k.descriptors) := by
  have moved := descriptors_perm (j := k) (k := k.enqueue l c id) (l := l) (c := c) rfl (if_pos ⟨rfl, rfl⟩) fun m d h =>
    if_neg fun h' => h.elim (· h'.1) (· h'.2)
  rw [List.append_assoc] at moved
  exact (List.perm_append_left_iff _).1 moved

theorem descriptors_foldl_enqueue (targets : List Target) (c : ClassId) (id : Nat) (k : Stock) :
    (targets.foldl (fun j l => j.enqueue l c id) k).descriptors.Perm (List.replicate targets.length id ++ k.descriptors) := by
  induction targets generalizing k with
  | nil => exact .refl _
  | cons l rest ih =>
    refine (ih (k.enqueue l c id)).trans (((descriptors_enqueue k l c id).append_left _).trans ?_)
    rw [List.length_cons, List.replicate_succ]
    exact List.perm_middle

theorem admitted_eq (k : Stock) (c : ClassId) (cell : Cell) (targets : List Target) :
    k.admitted c cell targets =
      { slots := insertSlot { id := lowestFree 0 k.slots, cell := cell, refs := targets.length } k.slots
        free := k.free - 1
        freeDesc := k.freeDesc - targets.length
        queue := fun m d =>
          k.queue m d ++ if d = c then List.replicate (targets.count m) (lowestFree 0 k.slots) else [] } :=
  foldl_enqueue ..

theorem descriptors_admitted (k : Stock) (c : ClassId) (cell : Cell) (targets : List Target) :
    (k.admitted c cell targets).descriptors.Perm
      (List.replicate targets.length (lowestFree 0 k.slots) ++ k.descriptors) :=
  descriptors_foldl_enqueue ..

/-- The slot that a cell takes is free, and its number is one of the 4096. -/
theorem Stock.Conserved.lowestFree (h : k.Conserved) (hf : 1 ≤ k.free) :
    lowestFree 0 k.slots < 4096 ∧ ∀ x ∈ k.slots, x.id ≠ Machine.lowestFree 0 k.slots := by
  obtain ⟨-, hle, hne⟩ := lowestFree_spec k.slots 0 (fun _ _ => Nat.zero_le _) h.matched.rising
  have := h.slots
  exact ⟨by omega, hne⟩

/-- R90 to R92: an admission takes one slot and as many descriptors as there are targets. -/
theorem Stock.Conserved.admitted (h : k.Conserved) (cell : Cell) (hf : 1 ≤ k.free) (hn : targets ≠ [])
    (hd : targets.length ≤ k.freeDesc) : (k.admitted c cell targets).Conserved := by
  obtain ⟨hid, hfree⟩ := h.lowestFree hf
  obtain ⟨hs, hq, hrise, hrefs, hnamed⟩ := h
  have perm := descriptors_admitted k c cell targets
  have count := List.length_pos_iff.2 hn
  rw [admitted_eq] at perm ⊢
  have unnamed : k.descriptors.count (Machine.lowestFree 0 k.slots) = 0 := List.count_eq_zero.2 fun hm => by
    obtain ⟨x, hx, he⟩ := hnamed _ hm
    exact hfree x hx he
  refine ⟨?_, ?_, insertSlot_sorted _ _ hrise hfree, fun x hx => ?_, fun id hm => ?_⟩
  · rw [insertSlot_length]
    dsimp only
    omega
  · rw [perm.length_eq, List.length_append, List.length_replicate]
    dsimp only
    omega
  · rw [perm.count_eq, List.count_append, List.count_replicate]
    rcases (mem_insertSlot ..).1 hx with rfl | hx
    · dsimp only
      rw [unnamed, beq_self_eq_true, if_pos rfl]
      exact ⟨hid, count, rfl⟩
    · rw [if_neg (by simpa using (hfree x hx).symm), Nat.zero_add]
      exact hrefs x hx
  · rcases List.mem_append.1 (perm.mem_iff.1 hm) with hm | hm
    · exact ⟨_, (mem_insertSlot ..).2 (.inl rfl), (List.eq_of_mem_replicate hm).symm⟩
    · obtain ⟨x, hx, he⟩ := hnamed id hm
      exact ⟨x, (mem_insertSlot ..).2 (.inr hx), he⟩

theorem Stock.Bounded.admitted (h : k.Bounded) (cell : Cell)
    (hr : ∀ l ∈ targets, (k.queue l c).length + targets.count l ≤ 1024) : (k.admitted c cell targets).Bounded := by
  intro m d
  rw [admitted_eq]
  dsimp only
  split <;> rename_i hd
  · rw [List.length_append, List.length_replicate, hd]
    by_cases hm : m ∈ targets
    · exact hr m hm
    · rw [List.count_eq_zero.2 hm]
      exact h m c
  · rw [List.append_nil]
    exact h m d

/-! ### What a removal makes of the stock -/

theorem Stock.Matched.slot_of_named (h : k.Matched) (hq : k.queue l c = id :: rest) : ∃ x ∈ k.slots, x.id = id := by
  refine h.named id (List.mem_flatMap.2 ⟨l, List.mem_finRange l, List.mem_flatMap.2 ⟨c, mem_allClasses c, ?_⟩⟩)
  rw [hq]
  exact List.mem_cons_self ..

theorem descriptors_dequeue (hq : k.queue l c = id :: rest) :
    k.descriptors.Perm (id :: (k.dequeue l c id rest).descriptors) := by
  have moved := descriptors_perm (j := k) (k := k.dequeue l c id rest) hq (if_pos ⟨rfl, rfl⟩) fun m d h =>
    if_neg fun h' => h.elim (· h'.1) (· h'.2)
  exact (List.perm_append_left_iff rest).1 (moved.symm.trans List.perm_middle.symm)

theorem release_of_mem {x : Slot} (hr : (k.slots.map (·.id)).Pairwise (· < ·)) (hx : x ∈ k.slots) :
    k.release x.id = { k with slots := lowerRefs x.id k.slots, free := if x.refs ≤ 1 then k.free + 1 else k.free } := by
  simp only [Stock.release, findSlot_of_mem hr hx]

/-- R91: the slots and F after a removal: the slot of the removed descriptor has one reference less, and is free with its last. -/
theorem dequeue_slots {x : Slot} (h : k.Matched) (hx : x ∈ k.slots) :
    (x.refs ≤ 1 → (k.dequeue l c x.id rest).free = k.free + 1 ∧
      (k.dequeue l c x.id rest).slots.length + 1 = k.slots.length ∧
      ∀ y, y ∈ (k.dequeue l c x.id rest).slots ↔ y ∈ k.slots ∧ y.id ≠ x.id) ∧
    (1 < x.refs → (k.dequeue l c x.id rest).free = k.free ∧
      (k.dequeue l c x.id rest).slots.length = k.slots.length ∧
      ∀ y, y ∈ (k.dequeue l c x.id rest).slots ↔ (y ∈ k.slots ∧ y.id ≠ x.id) ∨ y = { x with refs := x.refs - 1 }) := by
  unfold Stock.dequeue
  rw [release_of_mem h.rising hx]
  exact ⟨fun hlast => ⟨if_pos hlast, lowerRefs_last h.rising hx hlast⟩,
    fun hshared => ⟨if_neg (Nat.not_le.2 hshared), lowerRefs_shared h.rising hx hshared⟩⟩

/-- R90 to R92: a removal gives one descriptor back, and with the last of a slot the slot. -/
theorem Stock.Conserved.dequeue (h : k.Conserved) (hq : k.queue l c = id :: rest) : (k.dequeue l c id rest).Conserved := by
  obtain ⟨x, hx, rfl⟩ := h.matched.slot_of_named hq
  obtain ⟨last, shared⟩ := dequeue_slots (l := l) (c := c) (rest := rest) h.matched hx
  have perm := descriptors_dequeue hq
  have rising : ((k.dequeue l c x.id rest).slots.map (·.id)).Pairwise (· < ·) := by
    unfold Stock.dequeue
    rw [release_of_mem h.matched.rising hx]
    exact h.matched.rising.sublist (lowerRefs_ids_sublist ..)
  obtain ⟨hs, hd, hrise, hrefs, hnamed⟩ := h
  have counted (i : Nat) : k.descriptors.count i =
      (k.dequeue l c x.id rest).descriptors.count i + if x.id = i then 1 else 0 := by
    rw [perm.count_eq, List.count_cons]
    simp
  obtain ⟨hlt, hpos, hx'⟩ := hrefs x hx
  rw [counted, if_pos rfl] at hx'
  have others : ∀ y ∈ k.slots, y.id ≠ x.id → y.id < 4096 ∧ 1 ≤ y.refs ∧
      y.refs = (k.dequeue l c x.id rest).descriptors.count y.id := fun y hy hne => by
    have := hrefs y hy
    rwa [counted, if_neg hne.symm] at this
  have descs : (k.dequeue l c x.id rest).freeDesc + (k.dequeue l c x.id rest).descriptors.length = 8192 := by
    have := perm.length_eq
    rw [List.length_cons] at this
    rw [show (k.dequeue l c x.id rest).freeDesc = k.freeDesc + 1 from rfl]
    omega
  have named : ∀ i ∈ (k.dequeue l c x.id rest).descriptors, ∃ y ∈ k.slots, y.id = i := fun i hi =>
    hnamed i (perm.mem_iff.2 (List.mem_cons_of_mem _ hi))
  rcases Nat.lt_or_ge 1 x.refs with hmany | hone
  · obtain ⟨hfree, hlen, hmem⟩ := shared hmany
    refine ⟨by omega, descs, rising, fun y hy => ?_, fun i hi => ?_⟩
    · rcases (hmem y).1 hy with ⟨hy, hne⟩ | rfl
      · exact others y hy hne
      · dsimp only
        omega
    · obtain ⟨y, hy, rfl⟩ := named i hi
      by_cases hid : y.id = x.id
      · exact ⟨_, (hmem _).2 (.inr rfl), hid.symm⟩
      · exact ⟨y, (hmem y).2 (.inl ⟨hy, hid⟩), rfl⟩
  · obtain ⟨hfree, hlen, hmem⟩ := last hone
    refine ⟨by omega, descs, rising, fun y hy => others y ((hmem y).1 hy).1 ((hmem y).1 hy).2, fun i hi => ?_⟩
    obtain ⟨y, hy, rfl⟩ := named i hi
    refine ⟨y, (hmem y).2 ⟨hy, fun hid => ?_⟩, rfl⟩
    have := List.count_pos_iff.2 hi
    rw [hid] at this
    omega

theorem Stock.Bounded.dequeue (h : k.Bounded) (hq : k.queue l c = id :: rest) : (k.dequeue l c id rest).Bounded := by
  intro m d
  unfold Stock.dequeue
  dsimp only
  split
  · have := h l c
    rw [hq, List.length_cons] at this
    omega
  · exact h m d

/-! ### Nothing held -/

theorem descriptors_empty : Stock.empty.descriptors = [] := by
  simp [Stock.descriptors, Stock.empty]

theorem conserved_empty : Stock.empty.Conserved where
  slots := rfl
  descs := by rw [descriptors_empty]; rfl
  matched := ⟨.nil, fun _ hx => absurd hx List.not_mem_nil, fun i hi => by
    rw [descriptors_empty] at hi
    exact absurd hi List.not_mem_nil⟩

theorem bounded_empty : Stock.empty.Bounded := fun _ _ => Nat.zero_le _

end Sys2Proof.Machine
end

section
/-! SUPPORT. The operations that leave what the buffer and the queues hold: those of the links, the flow unit, the epoch unit, the
commit unit, the notice unit, the management agent and the loader. -/

namespace Sys2Proof.Machine

variable (s : State) (l : LinkId) (f : Fields)

/-! ### One link, or every link, changed beside its queues -/

@[simp] theorem modPort_stock {g : Port → Port} (h : (g (s.port l)).queues.lists = (s.port l).queues.lists) :
    (s.modPort l g).stock = s.stock := by
  refine stock_eq rfl rfl rfl fun m => ?_
  rw [port_modPort]
  split <;> rename_i hm
  · rw [hm, h]
  · rfl

@[simp] theorem mapPorts_stock {g : Port → Port} (h : ∀ p, (g p).queues.lists = p.queues.lists) :
    (s.mapPorts g).stock = s.stock := stock_eq rfl rfl rfl fun m => by rw [port_mapPorts, h]

@[simp] theorem modUnit_stock (g : LinkUnit → LinkUnit) : (s.modUnit l g).stock = s.stock := modPort_stock s l rfl

@[simp] theorem countLink_stock (k : LinkCounter) : (s.countLink l k).stock = s.stock := modPort_stock s l rfl

@[simp] theorem hand_stock (x : Option Cell) : (s.hand l x).stock = s.stock := modPort_stock s l rfl

@[simp] theorem placeControl_stock (x : ControlCell) : (s.placeControl l x).stock = s.stock := modPort_stock s l rfl

/-! ### What holds neither links nor buffer -/

@[simp] theorem latch_stock (x : ElementFlag) : (s.latch x).stock = s.stock := rfl

@[simp] theorem countElement_stock (k : ElementCounter) : (s.countElement k).stock = s.stock := rfl

@[simp] theorem modRoutes_stock (g : RouteStore → RouteStore) : (s.modRoutes g).stock = s.stock := rfl

@[simp] theorem modCommit_stock (g : CommitUnit → CommitUnit) : (s.modCommit g).stock = s.stock := rfl

@[simp] theorem modEpoch_stock (g : EpochUnit → EpochUnit) : (s.modEpoch g).stock = s.stock := rfl

@[simp] theorem modBoot_stock (g : BootLoader → BootLoader) : (s.modBoot g).stock = s.stock := rfl

@[simp] theorem dropRequest_stock (rest : List Request) : (s.dropRequest rest).stock = s.stock := rfl

/-- A fold of operations that leave the stock leaves it. -/
theorem foldl_stock {α : Type} {op : State → α → State} (h : ∀ t a, (op t a).stock = t.stock) (as : List α) (s : State) :
    (as.foldl op s).stock = s.stock := by
  induction as generalizing s with
  | nil => rfl
  | cons a rest ih => rw [List.foldl_cons, ih, h]

/-! ### Flags, notices and congestion (R106, R107, R120, R121, R123, R181) -/

@[simp] theorem latchLink_stock (x : LinkFlag) : (s.latchLink l x).stock = s.stock :=
  (quiet_latchLink s l x).stock (by rw [latchLink_frame])

@[simp] theorem changeNotice_stock : s.changeNotice.stock = s.stock := (quiet_changeNotice s).stock (by rw [changeNotice_frame])

@[simp] theorem gapExpiry_stock : s.gapExpiry.stock = s.stock := (quiet_gapExpiry s).stock (by rw [gapExpiry_frame])

@[simp] theorem refreshFlow_stock : s.refreshFlow.stock = s.stock := (quiet_refreshFlow s).stock (by rw [refreshFlow_frame])

@[simp] theorem xoffReevaluate_stock (c : ClassId) : (s.xoffReevaluate l c).stock = s.stock := by
  have frame := congrArg State.buffer (xoffReevaluate_frame s l c)
  refine stock_eq (by rw [frame]) (by rw [frame]) (by rw [frame]) fun m => ?_
  rw [((quiet_xoffReevaluate s l c).port m).queues, port_modPort]
  split <;> rename_i hm
  · rw [hm, reevaluate_eq]; rfl
  · rfl

theorem foldl_xoffReevaluateClass_stock (cs : List ClassId) : (cs.foldl State.xoffReevaluateClass s).stock = s.stock :=
  foldl_stock (fun t c => foldl_stock (op := fun u l => u.xoffReevaluate l c) (fun u l => xoffReevaluate_stock u l c) allLinks t) cs s

/-! ### Links (R25, R32, R33, R37 to R40, R43, R109, R111, R139) -/

@[simp] theorem emptyControl_stock : (s.emptyControl l).stock = s.stock := by
  rw [emptyControl_eq]
  exact modPort_stock s l (g := fun p => { p with sched := { p.sched with control := [] } }) rfl

@[simp] theorem enterUp_stock : (s.enterUp l).stock = s.stock := by simp [State.enterUp]

@[simp] theorem completeFlush_stock : (s.completeFlush l).stock = s.stock := by
  unfold State.completeFlush
  dsimp only
  split <;> simp

@[simp] theorem requestFlush_stock : (s.requestFlush l).stock = s.stock := by
  unfold State.requestFlush
  split
  · rfl
  · dsimp only
    split <;> simp

@[simp] theorem abandonTraffic_stock (was : LinkState) : (s.abandonTraffic l was).stock = s.stock := by
  unfold State.abandonTraffic
  split <;> simp

@[simp] theorem tellLeftUp_stock (was : LinkState) : (s.tellLeftUp was).stock = s.stock := by
  unfold State.tellLeftUp
  split <;> simp

@[simp] theorem disableNow_stock : (s.disableNow l).stock = s.stock := by simp [State.disableNow]

@[simp] theorem tellQueuesEmpty_stock : (s.tellQueuesEmpty l).stock = s.stock := by
  unfold State.tellQueuesEmpty State.endDrain
  split <;> simp

@[simp] theorem disableDrain_stock : (s.disableDrain l).stock = s.stock := by
  unfold State.disableDrain
  split <;> simp

@[simp] theorem enterFault_stock (cause : FaultCause) : (s.enterFault l cause).stock = s.stock := by simp [State.enterFault]

theorem lossExpiry_stock : (s.lossExpiry l).stock = s.stock := by
  unfold State.lossExpiry
  dsimp only
  split <;> simp

theorem linkBoundary_stock : (s.linkBoundary l).stock = s.stock := by
  unfold State.linkBoundary
  split <;> simp

theorem drainAtLimit_stock : (s.drainAtLimit l).stock = s.stock := by
  unfold State.drainAtLimit
  split <;> simp

theorem endHoldDown_stock : (s.endHoldDown l).stock = s.stock := by
  unfold State.endHoldDown State.enterBlank
  split
  · dsimp only
    split
    · simp
    · exact (modPort_stock _ l rfl).trans (modUnit_stock ..)
  · rfl

theorem flushEnd_stock : (s.flushEnd l).stock = s.stock := by
  unfold State.flushEnd
  split <;> simp

/-! ### Reports of the classifier (R20, R28 to R31, R34, R35) -/

@[simp] theorem report_stock (r : Report) : (s.report l r).stock = s.stock := by
  have compared (t : State) : (t.compareRuns l).stock = t.stock := by
    unfold State.compareRuns
    dsimp only
    split_ifs <;> simp
  have serviced (t : State) : (match t.serviceFault l r with | some cause => t.enterFault l cause | none => t).stock = t.stock := by
    split <;> simp
  unfold State.report
  split
  · rw [compared, modUnit_stock]
  · exact (serviced _).trans (modUnit_stock ..)
  · exact (serviced _).trans (modUnit_stock ..)
  all_goals rfl

/-! ### Commits (R72 to R77, R86) -/

@[simp] theorem endCommit_stock (r : CommitRequest) (o : CommitOutcome) (e : Half) : (s.endCommit r o e).stock = s.stock := by
  rw [endCommit_frame]; rfl

@[simp] theorem fire_stock (r : CommitRequest) (e : Half) : (s.fire r e).stock = s.stock := by simp [State.fire]

theorem walkOne_stock : s.walkOne.stock = s.stock := by
  unfold State.walkOne
  split
  · split <;> rfl
  all_goals rfl

theorem completeWalk_stock : s.completeWalk.stock = s.stock := by
  unfold State.completeWalk
  split
  · simp
  · split_ifs <;> simp
  all_goals rfl

theorem commitBoundary_stock : s.commitBoundary.stock = s.stock := by
  have committed (t : State) (b : Boundary) : (t.commitAtBoundary b).stock = t.stock := by
    unfold State.commitAtBoundary
    split
    · rfl
    all_goals split_ifs <;> simp
  have scrubbed (n : Nat) (t : State) : (State.scrubVisits n t).stock = t.stock := by
    induction n generalizing t with
    | zero => rfl
    | succ n ih => rw [State.scrubVisits, ih, scrubOne_frame]; rfl
  unfold State.commitBoundary
  split
  · rfl
  · rw [scrubbed, committed, modCommit_stock]

/-! ### Epochs and the pin (R155 to R158) -/

@[simp] theorem boundary_stock (carried : Option Half) (sync : SyncState) (missRun : Nat) (lost : Bool) :
    (s.boundary carried sync missRun lost).stock = s.stock :=
  (quiet_boundary s carried sync missRun lost).stock (by rw [boundary_frame])

@[simp] theorem externalEpoch_stock (carried : Option Half) (elapsed : Nat) :
    (s.externalEpoch carried elapsed).stock = s.stock := by
  unfold State.externalEpoch
  split
  · rfl
  · simp
  · simp
  all_goals
    dsimp only
    split <;> simp

theorem timerBoundary_stock : s.timerBoundary.stock = s.stock := by
  unfold State.timerBoundary
  split <;> simp

theorem holdoverBoundary_stock : s.holdoverBoundary.stock = s.stock := by
  unfold State.holdoverBoundary
  split
  case h_1 | h_2 =>
    dsimp only
    split <;> simp
  all_goals rfl

theorem pinRises_stock (elapsed : Nat) : (s.pinRises elapsed).stock = s.stock := by
  unfold State.pinRises
  split
  · rfl
  · dsimp only
    split <;> simp

theorem stuckExpiry_stock : s.stuckExpiry.stock = s.stock := by
  unfold State.stuckExpiry
  split <;> simp

/-! ### Resolution and the other received cells (R57, R61 to R66, R127, R159, R164) -/

@[simp] theorem advancePointer_stock (d : Dcn) : (s.advancePointer d).stock = s.stock := by rw [advancePointer_frame]; rfl

@[simp] theorem markDest_stock (d : Dcn) : (s.markDest d).stock = s.stock := rfl

@[simp] theorem markGroup_stock (g : GroupId) : (s.markGroup g).stock = s.stock := rfl

theorem resolveMember_stock (echo : Bool) (a : Resolving) (d : Dcn) :
    (resolveMember l echo a d).state.stock = a.state.stock := by
  unfold resolveMember
  split
  · simp
  · simp
  · simp
  · split
    · rfl
    · split <;> simp

theorem resolveMembers_stock (g : GroupId) : (s.resolveMembers l g).state.stock = s.stock := by
  have members (echo : Bool) (ds : List Dcn) (a : Resolving) :
      (ds.foldl (resolveMember l echo) a).state.stock = a.state.stock := by
    induction ds generalizing a with
    | nil => rfl
    | cons d rest ih => rw [List.foldl_cons, ih, resolveMember_stock]
  exact members ..

theorem takeFlow_stock (cell : Cell) : (s.takeFlow l cell).stock = s.stock := by
  refine foldl_stock (op := fun t c => t.judgeGrant l c (cell.byte c.val)) (fun t c => ?_) allClasses s
  unfold State.judgeGrant
  split <;> simp

theorem takeMgmt_stock (cell : Cell) : (s.takeMgmt l cell).stock = s.stock := by
  unfold State.takeMgmt
  split <;> rfl

theorem takeSync_stock (value : Half) (elapsed : Nat) : (s.takeSync l value elapsed).stock = s.stock := by
  unfold State.takeSync
  split_ifs <;> simp

theorem checked_stock {cell : Cell} {k : State → State} (h : (k s).stock = s.stock) : (s.checked l cell k).stock = s.stock := by
  unfold State.checked
  split
  · exact h
  · simp

@[simp] theorem notUp_stock : (s.notUp l).stock = s.stock := by simp [State.notUp]

theorem takeIdle_stock (cell : Cell) : (s.takeIdle l cell).stock = s.stock := checked_stock s l (report_stock ..)

theorem takeDamaged_stock : (s.takeDamaged l).stock = s.stock := by simp [State.takeDamaged]

theorem takeUnknown_stock : (s.takeUnknown l).stock = s.stock := by simp [State.takeUnknown]

/-- R46: the test checker of a link in TEST. -/
theorem checkTestCell_stock (cell : Cell) : (s.modPort l (Port.checkTestCell cell)).stock = s.stock := by
  refine modPort_stock s l ?_
  unfold Port.checkTestCell
  split
  · rfl
  · split <;> rfl

theorem checkDamaged_stock : (s.modPort l Port.checkDamaged).stock = s.stock := by
  refine modPort_stock s l ?_
  unfold Port.checkDamaged
  split <;> rfl

/-! ### Requests (R25, R37, R38, R45, R71, R81, R168, R172, R173) -/

@[simp] theorem respond_stock (r : Request) (status : Status) (data : List Byte) :
    (s.respond r status data).stock = s.stock := by
  unfold State.respond
  split <;> simp

theorem judgeRead_stock : (judgeRead f s).state.stock = s.stock := by
  unfold judgeRead
  split
  · rfl
  · split <;> rfl

theorem ClearFrame.stock {t : State} (h : ClearFrame s t) : t.stock = s.stock := h.quiet.stock (by rw [h.rest])

theorem judgeReadClear_stock : (judgeReadClear f s).state.stock = s.stock := by
  unfold judgeReadClear
  split
  · rfl
  · split
    · rfl
    · split
      · rfl
      · exact (clearFrame_foldl ..).stock

theorem judgeWriteOther_stock : (judgeWriteOther f s).state.stock = s.stock := by
  unfold judgeWriteOther
  split <;> rfl

theorem applyConfig_stock (q : Params) : (s.applyConfig f q).stock = s.stock := by
  have epochs (t : State) : (t.epochWritten f).stock = t.stock := by
    unfold State.epochWritten
    dsimp only
    split_ifs <;> rfl
  have congestion (t : State) : (t.congestionWritten f).stock = t.stock := by
    unfold State.congestionWritten
    split
    · exact evalCongestion_stock t
    · rfl
  rw [State.applyConfig, epochs, congestion, xoffWritten_eq, foldl_xoffReevaluateClass_stock]
  rfl

theorem judgeWriteConfig_stock : (judgeWriteConfig f s).state.stock = s.stock := by
  unfold judgeWriteConfig
  split
  · rfl
  · split
    · rfl
    · split
      · rfl
      · split
        · exact applyConfig_stock ..
        · rfl

theorem storePortMap_stock (entries : List PortMapEntry) (i : Nat) : (s.storePortMap i entries).stock = s.stock := by
  induction entries generalizing s i with
  | nil => rfl
  | cons e rest ih =>
    unfold State.storePortMap
    split
    · rw [ih]; exact modPort_stock s _ rfl
    · rfl

theorem judgeWritePortMap_stock : (judgeWritePortMap f s).state.stock = s.stock := by
  unfold judgeWritePortMap
  split
  · rfl
  · split
    · rfl
    · split
      · rfl
      · exact storePortMap_stock ..

theorem judgeRouteContents_stock (o : Object) : (judgeRouteContents f s o).state.stock = s.stock := by
  have dests (set : RouteSetId) (es : List DestContents) (t : State) (i : Nat) : (t.storeDests set i es).stock = t.stock := by
    induction es generalizing t i with
    | nil => rfl
    | cons e rest ih => unfold State.storeDests; split <;> [rw [ih, modRoutes_stock]; rfl]
  have groups (set : RouteSetId) (es : List GroupContents) (t : State) (i : Nat) : (t.storeGroups set i es).stock = t.stock := by
    induction es generalizing t i with
    | nil => rfl
    | cons e rest ih => unfold State.storeGroups; split <;> [rw [ih, modRoutes_stock]; rfl]
  unfold judgeRouteContents
  split
  · split <;> [rfl; exact dests ..]
  · split <;> [rfl; exact groups ..]
  all_goals rfl

theorem judgeWriteStage_stock : (judgeWriteStage f s).state.stock = s.stock := by
  unfold judgeWriteStage
  split
  · rfl
  · split
    · rfl
    · split
      · rfl
      · exact judgeRouteContents_stock ..

theorem judgeWriteActive_stock : (judgeWriteActive f s).state.stock = s.stock := by
  unfold judgeWriteActive
  split
  · rfl
  · split
    · rfl
    · split
      · rfl
      · exact judgeRouteContents_stock ..

theorem judgeWriteMasks_stock : (judgeWriteMasks f s).state.stock = s.stock := by
  unfold judgeWriteMasks
  split <;> rfl

theorem judgeCommit_stock : (judgeCommit f s).state.stock = s.stock := by
  unfold judgeCommit
  split_ifs <;> rfl

theorem judgeCommitNow_stock : (judgeCommitNow f s).state.stock = s.stock := by
  unfold judgeCommitNow
  split_ifs <;> rfl

theorem judgeCancelCommit_stock : (judgeCancelCommit f s).state.stock = s.stock := by
  unfold judgeCancelCommit
  split
  · rfl
  · exact endCommit_stock ..

theorem judgeLinkEnable_stock : (judgeLinkEnable f s).state.stock = s.stock := by
  unfold judgeLinkEnable
  split
  · rfl
  · split
    · exact modPort_stock s _ rfl
    · rfl

theorem judgeLinkDisableNow_stock : (judgeLinkDisableNow f s).state.stock = s.stock := by
  unfold judgeLinkDisableNow
  split
  · rfl
  · split
    · exact disableNow_stock ..
    · rfl

theorem judgeLinkDisableDrain_stock : (judgeLinkDisableDrain f s).state.stock = s.stock := by
  unfold judgeLinkDisableDrain
  split
  · rfl
  · exact disableDrain_stock ..

theorem judgeLinkTest_stock : (judgeLinkTest f s).state.stock = s.stock := by
  unfold judgeLinkTest
  split
  · rfl
  · split
    · exact modPort_stock s _ rfl
    · rfl

theorem judgeCloseConfig_stock : (judgeCloseConfig f s).state.stock = s.stock := by
  unfold judgeCloseConfig
  split <;> rfl

/-! ### Notices (R185) -/

theorem noticeBoundary_stock : s.noticeBoundary.stock = s.stock := by
  have offered (t : State) (e : Half) : (t.offerNotice e).stock = t.stock := by
    unfold State.offerNotice
    split
    · rfl
    next l _ =>
      split
      · exact placeControl_stock t l { kind := .notice, cell := t.noticeCell e }
      · rfl
  unfold State.noticeBoundary
  split
  · rfl
  · exact offered ..

/-! ### The loader (R192 to R197) -/

theorem withdrawn_stock : s.withdrawn.stock = s.stock := mapPorts_stock s (g := Port.withdraw) fun _ => rfl

@[simp] theorem bootFailure_stock (cause : BootCause) : (s.bootFailure cause).stock = s.stock := by
  unfold State.bootFailure State.enableAll
  refine (mapPorts_stock _ (g := Port.toBlank _) fun _ => rfl).trans ?_
  rw [withdraw_eq, evalCongestion_stock, foldl_xoffReevaluateClass_stock]
  exact withdrawn_stock _

theorem bootDone_stock : s.bootDone.stock = s.stock :=
  mapPorts_stock _ fun p => by unfold Port.bootDone; split <;> rfl

theorem judgeRecord_stock : (judgeRecord f s).state.stock = s.stock := by
  unfold judgeRecord
  split
  · unfold judgeWrite
    split
    · exact judgeWriteConfig_stock ..
    · exact judgeWritePortMap_stock ..
    · exact judgeWriteStage_stock ..
    · exact judgeWriteActive_stock ..
    · exact judgeWriteMasks_stock ..
    all_goals exact judgeWriteOther_stock ..
  · unfold judgeEnableRecord
    split
    · rfl
    · split
      · rfl
      · exact modPort_stock s _ rfl
  · unfold judgeDisableRecord
    split
    · rfl
    · split
      · exact modPort_stock s _ rfl
      · rfl
  · exact judgeCloseConfig_stock ..
  all_goals rfl

theorem applyRecord_stock (len : Nat) : (s.applyRecord f len).stock = s.stock := by
  have counted (t : State) (status : Status) : (t.countRecord status).stock = t.stock := by
    unfold State.countRecord
    split <;> rfl
  exact (counted ..).trans (judgeRecord_stock s f)

theorem applyRecords_stock (n : Nat) : (State.applyRecords n s).stock = s.stock := by
  induction n generalizing s with
  | zero => rfl
  | succ n ih =>
    unfold State.applyRecords
    split
    · exact bootDone_stock s
    · dsimp only
      split
      · simp
      · split
        · rfl
        · split
          · simp
          · split
            · simp
            · split
              · rfl
              · rw [ih, applyRecord_stock]

theorem endTransfer_stock (r : BusResult) : (s.endTransfer r).stock = s.stock := by
  have one (t : State) : t.passOne.stock = t.stock := by
    unfold State.passOne
    dsimp only
    split_ifs <;> simp
  have bytes (b : List Byte) : (s.takeBytes b).stock = s.stock := by
    unfold State.takeBytes
    dsimp only
    split
    · exact one _
    · exact applyRecords_stock ..
    all_goals rfl
  have lost : s.loseArbitration.stock = s.stock := by
    unfold State.loseArbitration
    dsimp only
    split <;> simp
  unfold State.endTransfer
  split
  · cases r with
    | success b => exact bytes b
    | noAck => exact bootFailure_stock ..
    | arbitrationLost => exact lost
  · rfl

theorem tick_stock : s.tick.stock = s.stock :=
  stock_eq rfl rfl rfl fun m => by rw [tick_port]

end Sys2Proof.Machine
end

section
/-! SUPPORT. Every step keeps the buffer conserved and the queues bounded (Sys2Proof/Safety.lean;
spec/05_cell_buffer_and_output_queues.md, R90 to R93). -/

namespace Sys2Proof.Machine

variable {s t u : State} {l : LinkId} {c : ClassId} {id : Nat} {rest : List Nat} {targets : List Target}

/-- From `s` to `t` what is held stays conserved, and the queues stay bounded. -/
structure StockKept (s t : State) : Prop where
  conserved : s.stock.Conserved → t.stock.Conserved
  bounded : s.stock.Bounded → t.stock.Bounded

theorem StockKept.of_eq (h : t.stock = s.stock) : StockKept s t := ⟨fun hs => h ▸ hs, fun hs => h ▸ hs⟩

theorem StockKept.refl (s : State) : StockKept s s := .of_eq rfl

theorem StockKept.trans (h : StockKept s t) (k : StockKept t u) : StockKept s u :=
  ⟨k.conserved ∘ h.conserved, k.bounded ∘ h.bounded⟩

theorem StockKept.of_empty (h : t.stock = .empty) : StockKept s t := ⟨fun _ => h ▸ conserved_empty, fun _ => h ▸ bounded_empty⟩

/-! ### Removals (R103, R110) -/

theorem stockKept_removeHead (h : (s.port l).queues.lists[c] = id :: rest) : StockKept s (s.removeHead l c id rest) := by
  constructor <;> intro hs <;> rw [removeHead_stock]
  · exact hs.dequeue h
  · exact hs.dequeue h

theorem stockKept_flushOne (s : State) (l : LinkId) : StockKept s (s.flushOne l) := by
  unfold State.flushOne
  split
  · split
    · exact .refl s
    · split <;> rename_i h
      · exact .refl s
      · exact (stockKept_removeHead h).trans (.of_eq (countLink_stock ..))
  · exact .refl s

theorem stockKept_sendData (s : State) (l : LinkId) (c : ClassId) : StockKept s (s.sendData l c) := by
  unfold State.sendData
  split
  · exact .refl s
  next slot rest h =>
    have head : ((s.hand l (s.headCell l c)).port l).queues.lists[c] = slot :: rest := by rw [port_hand_self]; exact h
    refine .trans (.of_eq (hand_stock ..)) ((stockKept_removeHead head).trans (.of_eq ?_))
    exact (tellQueuesEmpty_stock ..).trans (modPort_stock _ l rfl)

theorem stockKept_ready (s : State) (l : LinkId) : StockKept s (s.ready l) := by
  have roundRobin (t : State) : StockKept t (t.sendRoundRobin l) := by
    have examined : StockKept t (t.modPort l fun p => { p with sched := (t.roundRobin l).1 }) := .of_eq (modPort_stock t l rfl)
    unfold State.sendRoundRobin
    dsimp only
    split
    · exact examined.trans (stockKept_sendData ..)
    · exact examined.trans (.of_eq (hand_stock ..))
  have selected (t : State) : StockKept t (t.select l) := by
    unfold State.select
    split
    · exact .of_eq ((modPort_stock _ l rfl).trans (hand_stock ..))
    · split
      · exact .of_eq ((modPort_stock _ l rfl).trans (hand_stock ..))
      · split
        · exact stockKept_sendData ..
        · exact roundRobin t
  unfold State.ready
  split
  case h_5 => exact .of_eq ((modUnit_stock ..).trans (hand_stock ..))
  case h_7 | h_8 => exact .trans (.of_eq (countLink_stock ..)) (selected _)
  all_goals exact .of_eq (hand_stock ..)

/-! ### Admission (R95, R97 to R100) -/

/-- R97, R98: what the judgement of a list of targets leaves room for. -/
structure State.Admissible (s : State) (c : ClassId) (targets : List Target) : Prop where
  descs : targets.length ≤ s.buffer.freeDesc
  room : ∀ l ∈ targets, s.queueLength l c + targets.count l ≤ s.threshold c

theorem State.Admissible.snoc (h : s.Admissible c targets) (hq : s.queueLength l c + targets.count l < s.threshold c)
    (hd : targets.length < s.buffer.freeDesc) : s.Admissible c (targets ++ [l]) where
  descs := by rw [List.length_append, List.length_singleton]; exact hd
  room m hm := by
    rw [List.count_append, List.count_singleton]
    by_cases hml : l = m
    · subst hml
      rw [beq_self_eq_true, if_pos rfl]
      exact hq
    · rw [if_neg (by simpa using hml)]
      refine h.room m ((List.mem_append.1 hm).resolve_right fun hm => hml ?_)
      exact (List.mem_singleton.1 hm).symm

theorem State.Admissible.judgeTarget {j : Judged} (h : s.Admissible c j.admitted) (l : Target) :
    s.Admissible c (s.judgeTarget c j l).admitted := by
  unfold State.judgeTarget
  split_ifs with hq hd
  · exact h
  · exact h
  · exact h.snoc (Nat.not_le.1 hq) (Nat.not_le.1 hd)

theorem admissible_nil (s : State) (c : ClassId) : s.Admissible c [] := ⟨Nat.zero_le _, fun _ h => absurd h List.not_mem_nil⟩

theorem admissible_judgeTargets (s : State) (c : ClassId) (targets : List Target) :
    s.Admissible c (s.judgeTargets c targets).admitted := by
  have judged (ls : List Target) (j : Judged) (h : s.Admissible c j.admitted) :
      s.Admissible c (ls.foldl (s.judgeTarget c) j).admitted := by
    induction ls generalizing j with
    | nil => exact h
    | cons l rest ih => exact ih _ (h.judgeTarget l)
  unfold State.judgeTargets
  split
  · exact admissible_nil s c
  · exact judged targets _ (admissible_nil s c)

theorem stockKept_admitCell (h : s.Admissible c targets) (cell : Cell) (hf : 1 ≤ s.buffer.free) (hn : targets ≠ []) :
    StockKept s (s.admitCell c cell targets) := by
  constructor <;> intro hs <;> rw [admitCell_stock]
  · exact hs.admitted cell hf hn h.descs
  · exact hs.admitted cell fun l hl => (h.room l hl).trans (threshold_le ..)

theorem judgeUnicast_none {target : Target} (h : s.judgeUnicast c target = none) :
    1 ≤ s.buffer.free ∧ s.Admissible c [target] := by
  unfold State.judgeUnicast at h
  split_ifs at h with hf hq hd
  exact ⟨Nat.pos_of_ne_zero hf, (admissible_nil s c).snoc (Nat.not_le.1 hq) (Nat.pos_of_ne_zero hd)⟩

theorem stockKept_admitUnicast (s : State) (arrival : LinkId) (c : ClassId) (cell : Cell) (target : Target) :
    StockKept s (s.admitUnicast arrival c cell target) := by
  unfold State.admitUnicast
  split <;> rename_i h
  · exact .of_eq (countLink_stock ..)
  · obtain ⟨hf, hroom⟩ := judgeUnicast_none h
    exact stockKept_admitCell hroom cell hf (List.cons_ne_nil _ _)

theorem free_of_judgeTargets (h : (s.judgeTargets c targets).admitted ≠ []) : 1 ≤ s.buffer.free := by
  refine Nat.pos_of_ne_zero fun hf => h ?_
  rw [State.judgeTargets, if_pos hf]

theorem countDrops_stock (s : State) (refused : List (Target × Refused)) : (s.countDrops refused).stock = s.stock :=
  foldl_stock (op := fun t (r : Target × Refused) => t.countLink r.1 .mcastCopyDrop) (fun _ _ => countLink_stock ..) refused s

theorem stockKept_admitMulticast (s : State) (arrival : LinkId) (c : ClassId) (cell : Cell) (targets : List Target) :
    StockKept s (s.admitMulticast arrival c cell targets) := by
  have wholeLoss (t : State) (refused : List (Target × Refused)) : (t.countWholeLoss arrival refused).stock = t.stock := by
    unfold State.countWholeLoss
    split <;> simp
  unfold State.admitMulticast
  dsimp only
  split <;> rename_i h
  · exact .of_eq ((wholeLoss ..).trans (countDrops_stock ..))
  · have hn : (s.judgeTargets c targets).admitted ≠ [] := fun e => h (List.isEmpty_iff.2 e)
    exact (stockKept_admitCell (admissible_judgeTargets s c targets) cell (free_of_judgeTargets hn) hn).trans
      (.of_eq (countDrops_stock ..))

/-! ### Data cells (R62, R64, R66) -/

theorem stockKept_takeDataU (s : State) (l : LinkId) (cell : Cell) : StockKept s (s.takeDataU l cell) := by
  unfold State.takeDataU State.resolveUnicast
  split
  · split
    · exact .of_eq (countLink_stock ..)
    · exact .of_eq (countLink_stock ..)
    · exact .of_eq (countLink_stock ..)
    · split
      · exact .trans (.of_eq (advancePointer_stock ..)) (stockKept_admitUnicast ..)
      · exact .of_eq (countLink_stock ..)
  · exact .of_eq (countLink_stock ..)

theorem stockKept_takeDataM (s : State) (l : LinkId) (cell : Cell) : StockKept s (s.takeDataM l cell) := by
  unfold State.takeDataM State.resolveMulticast
  split
  · split
    · exact .of_eq (countLink_stock ..)
    · exact .of_eq (countLink_stock ..)
    · exact .of_eq (countLink_stock ..)
    · have resolved := fun g => resolveMembers_stock s l g
      dsimp only
      split
      · exact .of_eq ((countLink_stock ..).trans (resolved _))
      · exact .trans (.of_eq (resolved _)) (stockKept_admitMulticast ..)
  · exact .of_eq (countLink_stock ..)

/-- A received cell, by the state of its link (R16). -/
theorem stockKept_receive {onTest onQualify onService : State → State} (ht : (onTest s).stock = s.stock)
    (hq : ∀ t, (onQualify t).stock = t.stock) (hs : ∀ t, StockKept t (onService t)) :
    StockKept s (s.receive l onTest onQualify onService) := by
  have counted : StockKept s (s.countLink l .rxCells) := .of_eq (countLink_stock ..)
  unfold State.receive
  split
  · exact .of_eq ht
  · exact counted.trans (.of_eq (hq _))
  · exact counted.trans (hs _)
  · exact counted.trans (hs _)
  all_goals exact .refl s

/-! ### Resets (R114, R115) -/

theorem elementReset_stock (s : State) (bootSel : Bool) (id : BitVec 6) : (s.elementReset bootSel id).stock = .empty := by
  have lists : ∀ c : ClassId, LinkQueues.reset.lists[c] = [] := by decide
  have buffer : (s.elementReset bootSel id).buffer = CellBuffer.reset := by cases bootSel <;> rfl
  have queues (m : LinkId) : ((s.elementReset bootSel id).port m).queues = LinkQueues.reset := by
    rw [elementReset_port]
    split <;> rfl
  simp only [State.stock, buffer, queues, lists]
  rfl

theorem softReset_stock (s : State) : s.softReset.stock = .empty := by
  have lists : ∀ c : ClassId, LinkQueues.reset.lists[c] = [] := by decide
  have queues (m : LinkId) : (s.softReset.port m).queues = LinkQueues.reset := by rw [softReset_port]; rfl
  simp only [State.stock, queues, lists]
  rfl

theorem stockKept_serveSoftReset (s : State) : StockKept s s.serveSoftReset := by
  unfold State.serveSoftReset
  split
  · exact .refl s
  · split
    · exact .of_empty (softReset_stock s)
    · exact .refl s

/-! ### Commands -/

/-- A command's step keeps what is held conserved, and the queues bounded. -/
def KeepsStock (x : State → Host.Outcome State Fault Refusal) : Prop := ∀ s t, x s = .next t → StockKept s t

theorem keepsStock_next {g : State → State} (h : ∀ s, StockKept s (g s)) : KeepsStock fun s => .next (g s) := by
  rintro s t e
  obtain rfl := Host.Outcome.next.inj e
  exact h s

theorem keepsStock_act {g : State → State} (h : ∀ s, StockKept s (g s)) : KeepsStock (act g) := by
  refine keepsStock_next fun s => ?_
  split
  · exact .refl s
  · exact h s

/-- A command that leaves what is held. -/
theorem keepsStock_of_eq {g : State → State} (h : ∀ s, (g s).stock = s.stock) : KeepsStock (act g) :=
  keepsStock_act fun s => .of_eq (h s)

theorem keepsStock_serve {kind : ServiceKind} {judge : Fields → State → Served}
    (h : ∀ u f, (judge f u).state.stock = u.stock) : KeepsStock (act (serve kind judge)) := by
  refine keepsStock_of_eq fun s => ?_
  unfold serve
  split
  · rfl
  · split
    · rw [respond_stock, h, dropRequest_stock]
    · rfl

theorem keepsStock_receive {b : Bool} {onTest onQualify onService : State → State}
    (ht : ∀ s, (onTest s).stock = s.stock) (hq : ∀ s, (onQualify s).stock = s.stock) (hs : ∀ s, StockKept s (onService s)) :
    KeepsStock (act fun s => if b then s.receive l onTest onQualify onService else s) := by
  refine keepsStock_act fun s => ?_
  split
  · exact stockKept_receive (ht s) hq hs
  · exact .refl s

/-- A received cell that is not admitted. -/
theorem keepsStock_receive_of_eq {b : Bool} {onTest onQualify onService : State → State}
    (ht : ∀ s, (onTest s).stock = s.stock) (hq : ∀ s, (onQualify s).stock = s.stock) (hs : ∀ s, (onService s).stock = s.stock) :
    KeepsStock (act fun s => if b then s.receive l onTest onQualify onService else s) :=
  keepsStock_receive ht hq fun s => .of_eq (hs s)

theorem keepsStock_transmitReady (l : LinkId) : KeepsStock (execTransmitReady l) := by
  refine keepsStock_next fun s => ?_
  split
  · exact .of_eq (hand_stock ..)
  · exact stockKept_ready s l

theorem keepsStock_epochInRisingEdge (elapsed : Nat) : KeepsStock (execEpochInRisingEdge elapsed) := by
  refine keepsStock_next fun s => .of_eq ?_
  split
  · rfl
  · exact pinRises_stock s elapsed

theorem report_stock_eq {x : State} {r : Report} (h : x.stock = s.stock) : (x.report l r).stock = s.stock :=
  (report_stock ..).trans h

theorem keepsStock_exec (i : Instr) : KeepsStock (exec i) := by
  cases i with
  | elementReset bootSel id => exact keepsStock_next fun s => .of_empty (elementReset_stock s bootSel id)
  | resetNLow => exact keepsStock_next fun s => .of_eq rfl
  | dataUReceived l cell =>
    exact keepsStock_receive (fun _ => rfl) (notUp_stock · l) fun s =>
      (stockKept_takeDataU s l cell).trans (.of_eq (report_stock ..))
  | dataMReceived l cell =>
    exact keepsStock_receive (fun _ => rfl) (notUp_stock · l) fun s =>
      (stockKept_takeDataM s l cell).trans (.of_eq (report_stock ..))
  | flowReceived l cell =>
    exact keepsStock_receive_of_eq (fun _ => rfl) (notUp_stock · l) fun s =>
      checked_stock s l (report_stock_eq (takeFlow_stock s l cell))
  | mgmtReceived l cell =>
    exact keepsStock_receive_of_eq (fun _ => rfl) (notUp_stock · l) fun s =>
      checked_stock s l (report_stock_eq (takeMgmt_stock s l cell))
  | syncReceived l cell elapsed =>
    exact keepsStock_receive_of_eq (fun _ => rfl) (notUp_stock · l) fun s =>
      checked_stock s l (report_stock_eq (takeSync_stock s l _ elapsed))
  | idleReceived l cell =>
    exact keepsStock_receive_of_eq (fun _ => rfl) (takeIdle_stock · l cell) (takeIdle_stock · l cell)
  | markerReceived l cell =>
    exact keepsStock_receive_of_eq (fun _ => rfl) (report_stock · l .marker) (report_stock · l .marker)
  | testReceived l cell =>
    exact keepsStock_receive_of_eq (checkTestCell_stock · l cell) (notUp_stock · l) (report_stock · l .other)
  | damagedCellReceived l cell =>
    exact keepsStock_receive_of_eq (checkDamaged_stock · l) (takeDamaged_stock · l) (takeDamaged_stock · l)
  | unknownTypeReceived l cell =>
    exact keepsStock_receive_of_eq (fun _ => rfl) (takeUnknown_stock · l) (takeUnknown_stock · l)
  | storageUpset x => exact keepsStock_of_eq (modRoutes_stock · _)
  | lossTimerExpiry l => exact keepsStock_of_eq (lossExpiry_stock · l)
  | gapTimerExpiry => exact keepsStock_of_eq gapExpiry_stock
  | timerBoundary => exact keepsStock_of_eq timerBoundary_stock
  | holdoverBoundary => exact keepsStock_of_eq holdoverBoundary_stock
  | epochInRisingEdge elapsed => exact keepsStock_epochInRisingEdge elapsed
  | epochInFallingEdge => exact keepsStock_next fun s => .of_eq (modEpoch_stock ..)
  | stuckTimerExpiry => exact keepsStock_of_eq stuckExpiry_stock
  | epochOutFall => exact keepsStock_of_eq (modEpoch_stock · _)
  | linkBoundaryWork l => exact keepsStock_of_eq (linkBoundary_stock · l)
  | drainLimit l => exact keepsStock_of_eq (drainAtLimit_stock · l)
  | holdDownEnd l => exact keepsStock_of_eq (endHoldDown_stock · l)
  | commitBoundary => exact keepsStock_of_eq commitBoundary_stock
  | refresh => exact keepsStock_of_eq refreshFlow_stock
  | noticeBoundary => exact keepsStock_of_eq noticeBoundary_stock
  | walkExamination => exact keepsStock_of_eq walkOne_stock
  | checkCompletion => exact keepsStock_of_eq completeWalk_stock
  | flushRemoval l => exact keepsStock_act (stockKept_flushOne · l)
  | flushCompletion l => exact keepsStock_of_eq (flushEnd_stock · l)
  | transmitReady l => exact keepsStock_transmitReady l
  | read => exact keepsStock_serve judgeRead_stock
  | readClear => exact keepsStock_serve judgeReadClear_stock
  | write => exact keepsStock_serve judgeWriteOther_stock
  | writeConfig => exact keepsStock_serve judgeWriteConfig_stock
  | writePortMap => exact keepsStock_serve judgeWritePortMap_stock
  | writeStage => exact keepsStock_serve judgeWriteStage_stock
  | writeActive => exact keepsStock_serve judgeWriteActive_stock
  | writeMasks => exact keepsStock_serve judgeWriteMasks_stock
  | commit => exact keepsStock_serve judgeCommit_stock
  | commitNow => exact keepsStock_serve judgeCommitNow_stock
  | cancelCommit => exact keepsStock_serve judgeCancelCommit_stock
  | linkEnable => exact keepsStock_serve judgeLinkEnable_stock
  | linkDisableNow => exact keepsStock_serve judgeLinkDisableNow_stock
  | linkDisableDrain => exact keepsStock_serve judgeLinkDisableDrain_stock
  | linkTest => exact keepsStock_serve judgeLinkTest_stock
  | closeConfig => exact keepsStock_serve judgeCloseConfig_stock
  | setEpoch | echo | unknownCommand => exact keepsStock_serve fun _ _ => rfl
  | softReset => exact keepsStock_act stockKept_serveSoftReset
  | busTransferEnd r => exact keepsStock_of_eq (endTransfer_stock · r)
  | transferRepeat => exact keepsStock_of_eq (modBoot_stock · _)
  | signalLost l | signalRestored l | alignmentGained l | alignmentLost l | blankTimerExpiry l | flapClear l =>
    exact keepsStock_of_eq (modUnit_stock · l _)

/-! ### Steps -/

theorem stockKept_step (h : step s = .next t) : StockKept s t := by
  unfold step at h
  split at h
  · unfold idleStep at h
    split at h
    · exact keepsStock_next StockKept.refl s t h
    · split at h
      · exact keepsStock_exec _ s t h
      · exact keepsStock_next (g := State.tick) (fun s => .of_eq (tick_stock s)) s t h
  next i waiting _ =>
    have waits : StockKept s { s with pending := waiting } := .of_eq rfl
    exact waits.trans (keepsStock_exec i _ t h)

/-- Settles O53: a command leaves what is held, or changes it by admissions and removals as `Stock.Conserved` and `Stock.Bounded`
allow, or by a reset. -/
theorem stepsKeepTheBufferConserved : Obligations.StepsKeepTheBufferConserved :=
  ⟨fun _ _ hs h => bufferConserved_iff.2 ((stockKept_step h).conserved (bufferConserved_iff.1 hs)),
    fun _ _ hs h => (stockKept_step h).bounded hs⟩

end Sys2Proof.Machine
end

section
/-! SUPPORT. The change notices that an operation on the buffer and the queues gives: one for each XOFF flag and for the global
congestion flag when it changes (spec/05_cell_buffer_and_output_queues.md, R106 to R108;
spec/06_congestion_signalling_and_credits.md, R120, R121). -/

namespace Sys2Proof.Machine

variable {s t u : State} {l : LinkId} {c : ClassId} {m n : Nat} {g : LinkId → ClassId → Bool}

/-! ### What change notices read (R120, R121) -/

/-- Change notices act alike on two states: these agree in the flow unit, in FLOW_GAP, and in the state and FLOW-due of each link. -/
structure NoticeAlike (s t : State) : Prop where
  flow : t.flow = s.flow
  gap : t.param .flowGap = s.param .flowGap
  state : ∀ m, (t.port m).unit.state = (s.port m).unit.state
  due : ∀ m, (t.port m).flowDue = (s.port m).flowDue

theorem changeNotice_flowDue (s : State) (m : LinkId) : (s.changeNotice.port m).flowDue =
    if s.flow.gapTimer = none then (s.port m).flowDue || (s.port m).unit.state.inService else (s.port m).flowDue := by
  rw [changeNotice_port, markFlowDue_eq]
  split <;> rfl

theorem changeNotice_param (s : State) (k : Param) : s.changeNotice.param k = s.param k := by
  rw [changeNotice_frame]; rfl

theorem NoticeAlike.changeNotice (h : NoticeAlike s t) : NoticeAlike s.changeNotice t.changeNotice where
  flow := by rw [changeNotice_flow, changeNotice_flow, h.flow, h.gap]
  gap := by rw [changeNotice_param, changeNotice_param, h.gap]
  state m := by rw [changeNotice_unit, changeNotice_unit, h.state]
  due m := by rw [changeNotice_flowDue, changeNotice_flowDue, h.flow, h.due, h.state]

theorem NoticeAlike.iterate (h : NoticeAlike s t) (n : Nat) :
    NoticeAlike (State.changeNotice^[n] s) (State.changeNotice^[n] t) := by
  induction n generalizing s t with
  | zero => exact h
  | succ n ih => exact ih h.changeNotice

theorem iterate_changeNotice_unit (n : Nat) (s : State) (m : LinkId) :
    ((State.changeNotice^[n] s).port m).unit = (s.port m).unit := by
  induction n generalizing s with
  | zero => rfl
  | succ n ih => exact (ih s.changeNotice).trans (changeNotice_unit s m)

theorem iterate_changeNotice_param (n : Nat) (s : State) (k : Param) : (State.changeNotice^[n] s).param k = s.param k := by
  induction n generalizing s with
  | zero => rfl
  | succ n ih => exact (ih s.changeNotice).trans (changeNotice_param s k)

/-! ### Operations that move queues and flags and give change notices -/

/-- From `s` to `t` queues and XOFF flags have moved and `n` change notices have been given, and nothing else has become of the
links, the flow unit and the parameters. -/
structure Noticed (n : Nat) (s t : State) : Prop where
  params : t.agent.params = s.agent.params
  flow : t.flow = (State.changeNotice^[n] s).flow
  port : ∀ m, t.port m = { s.port m with
    queues := { (s.port m).queues with lists := (t.port m).queues.lists, xoff := (t.port m).queues.xoff }
    flowDue := ((State.changeNotice^[n] s).port m).flowDue }

theorem Noticed.param (h : Noticed n s t) (k : Param) : t.param k = s.param k := by
  rw [State.param, State.param, h.params]

theorem Noticed.alike (h : Noticed n s t) : NoticeAlike (State.changeNotice^[n] s) t where
  flow := h.flow
  gap := by rw [h.param, iterate_changeNotice_param]
  state m := by rw [h.port, iterate_changeNotice_unit]
  due m := by rw [h.port]

theorem Noticed.trans (h : Noticed n s t) (k : Noticed m t u) : Noticed (n + m) s u := by
  have again := h.alike.iterate m
  rw [← Function.iterate_add_apply, Nat.add_comm m n] at again
  refine ⟨k.params.trans h.params, by rw [k.flow, again.flow], fun x => ?_⟩
  rw [k.port, again.due, h.port]

/-- Nothing but queues, their flags, the buffer and the notice unit has moved. -/
theorem Noticed.of_queues (ha : t.agent.params = s.agent.params) (hf : t.flow = s.flow)
    (hp : ∀ m, t.port m = { s.port m with
      queues := { (s.port m).queues with lists := (t.port m).queues.lists, xoff := (t.port m).queues.xoff } }) :
    Noticed 0 s t := ⟨ha, hf, hp⟩

theorem Noticed.of_ports (ha : t.agent.params = s.agent.params) (hf : t.flow = s.flow) (hp : t.ports = s.ports) :
    Noticed 0 s t :=
  .of_queues ha hf fun m => by rw [show t.port m = s.port m from congrArg (·[m]) hp]

theorem Noticed.refl (s : State) : Noticed 0 s s := .of_ports rfl rfl rfl

theorem Noticed.beside (h : Noticed n s t) (k : Noticed 0 t u) : Noticed n s u := Nat.add_zero n ▸ h.trans k

theorem noticed_buffer (s : State) (b : CellBuffer) : Noticed 0 s { s with buffer := b } := .of_ports rfl rfl rfl

theorem noticed_latch (s : State) (f : ElementFlag) : Noticed 0 s (s.latch f) := .of_ports rfl rfl rfl

/-- The XOFF flag of one queue or the queue itself has moved. -/
theorem Noticed.modPort {f : Port → Port} (hf : ∀ p : Port, f p = { p with
    queues := { p.queues with lists := (f p).queues.lists, xoff := (f p).queues.xoff } }) : Noticed 0 s (s.modPort l f) := by
  refine .of_queues rfl rfl fun m => ?_
  rw [port_modPort]
  split <;> rename_i h
  · rw [h, hf]
  · rfl

theorem noticed_changeNotice (s : State) : Noticed 1 s s.changeNotice where
  params := by rw [changeNotice_frame]
  flow := rfl
  port m := by
    conv_lhs => rw [changeNotice_port_eq]
    rw [changeNotice_queues]
    rfl

theorem noticed_setXoff (s : State) (l : LinkId) (c : ClassId) (b : Bool) :
    Noticed (if (s.port l).queues.xoff[c] = b then 0 else 1) s (s.setXoff l c b) := by
  unfold State.setXoff
  split
  · exact .refl s
  · exact (Noticed.modPort fun _ => rfl).trans (noticed_changeNotice _)

theorem noticed_setCongested (s : State) (b : Bool) :
    Noticed (if b = s.buffer.congested then 0 else 1) s (s.setCongested b) := by
  unfold State.setCongested
  by_cases h : s.buffer.congested = b
  · rw [if_pos h, if_pos h.symm]
    exact .refl s
  · rw [if_neg h, if_neg (Ne.symm h)]
    have told : Noticed 1 s ({ s with buffer := { s.buffer with congested := b } } : State).changeNotice :=
      (noticed_buffer s _).trans (noticed_changeNotice _)
    dsimp only
    split
    · exact told.trans (noticed_latch ..)
    · exact told

/-! ### The global congestion flag (R108) -/

/-- R108: the value that the flag takes. -/
theorem evalCongestion_congested (s : State) : s.evalCongestion.buffer.congested =
    if s.buffer.free < s.param .fPanic then true
    else if s.param .fResume ≤ s.buffer.free then false else s.buffer.congested := by
  unfold State.evalCongestion
  split_ifs
  · rw [setCongested_frame]
  · rw [setCongested_frame]
  · rfl

theorem evalCongestion_eq (s : State) : s.evalCongestion = s.setCongested s.evalCongestion.buffer.congested := by
  have kept : s.setCongested s.buffer.congested = s := if_pos rfl
  rw [evalCongestion_congested]
  unfold State.evalCongestion
  split_ifs
  · rfl
  · rfl
  · exact kept.symm

theorem noticed_evalCongestion (s : State) :
    Noticed (if s.evalCongestion.buffer.congested = s.buffer.congested then 0 else 1) s s.evalCongestion := by
  conv in (occs := 3) s.evalCongestion => rw [evalCongestion_eq]
  exact noticed_setCongested s _

/-- R108: the setting of the flag latches GLOBAL_CONGESTION. -/
theorem evalCongestion_notice (s : State) : s.evalCongestion.notice =
    (if s.buffer.congested = false ∧ s.evalCongestion.buffer.congested = true then s.latch .globalCongestion else s).notice := by
  have set (b : Bool) : (s.setCongested b).notice =
      (if s.buffer.congested = false ∧ b = true then s.latch .globalCongestion else s).notice := by
    unfold State.setCongested
    rw [changeNotice_frame]
    cases hc : s.buffer.congested <;> cases b <;> simp [State.latch]
  conv_lhs => rw [evalCongestion_eq]
  exact set _

/-! ### XOFF flags that move towards given values, each with its change notice (R106, R107) -/

/-- The number of XOFF flags that differ. -/
def State.flagChanges (s t : State) : Nat :=
  ∑ x : LinkId × ClassId, if (t.port x.1).queues.xoff[x.2] = (s.port x.1).queues.xoff[x.2] then 0 else 1

/-- From `s` to `t` XOFF flags move to the values `g`, and each that moves is one change notice. -/
structure Flagged (g : LinkId → ClassId → Bool) (s t : State) : Prop where
  toward : ∀ m d, (t.port m).queues.xoff[d] = (s.port m).queues.xoff[d] ∨ (t.port m).queues.xoff[d] = g m d
  noticed : Noticed (s.flagChanges t) s t

/-- Flags that move to given values move once. -/
theorem Flagged.trans (h : Flagged g s t) (k : Flagged g t u) : Flagged g s u := by
  have once : s.flagChanges u = s.flagChanges t + t.flagChanges u := by
    unfold State.flagChanges
    rw [← Finset.sum_add_distrib]
    refine Finset.sum_congr rfl fun x _ => ?_
    rcases h.toward x.1 x.2 with e | e
    · rw [e, if_pos rfl, Nat.zero_add]
    · rcases k.toward x.1 x.2 with e' | e'
      · rw [e', if_pos rfl, Nat.add_zero]
      · rw [e', e, if_pos rfl, Nat.add_zero]
  refine ⟨fun m d => ?_, once ▸ h.noticed.trans k.noticed⟩
  rcases k.toward m d with e | e
  · rw [e]; exact h.toward m d
  · exact .inr e

theorem Flagged.of_same (h : Noticed 0 s t) (hx : ∀ m, (t.port m).queues.xoff = (s.port m).queues.xoff) : Flagged g s t := by
  have none : s.flagChanges t = 0 := by
    unfold State.flagChanges
    exact Finset.sum_eq_zero fun x _ => if_pos (by rw [hx])
  exact ⟨fun m d => .inl (by rw [hx]), by rw [none]; exact h⟩

theorem Flagged.refl (s : State) : Flagged g s s := .of_same (.refl s) fun _ => rfl

/-- The flags that differ are one at most. -/
theorem flagChanges_of_one (h : ∀ m d, (m, d) ≠ (l, c) → (t.port m).queues.xoff[d] = (s.port m).queues.xoff[d]) :
    s.flagChanges t = if (t.port l).queues.xoff[c] = (s.port l).queues.xoff[c] then 0 else 1 := by
  unfold State.flagChanges
  exact Fintype.sum_eq_single (l, c) fun x hne => if_pos (h x.1 x.2 hne)

theorem countP_ne_eq_sum {α β : Type} [DecidableEq β] (f k : α → β) (as : List α) :
    as.countP (fun a => decide (f a ≠ k a)) = (as.map fun a => if f a = k a then 0 else 1).sum := by
  induction as with
  | nil => rfl
  | cons a rest ih =>
    rw [List.countP_cons, ih, List.map_cons, List.sum_cons, Nat.add_comm]
    congr 1
    by_cases h : f a = k a <;> simp [h]

/-- The flags that differ, counted link by link. -/
theorem flagChanges_eq (s t : State) : s.flagChanges t = (allLinks.map fun m =>
    allClasses.countP fun d => decide ((t.port m).queues.xoff[d] ≠ (s.port m).queues.xoff[d])).sum := by
  unfold State.flagChanges
  rw [Fintype.sum_prod_type, Fin.sum_univ_def]
  refine congrArg List.sum (List.map_congr_left fun m _ => ?_)
  rw [countP_ne_eq_sum, Fin.sum_univ_def]
  rfl

/-- The flags that differ, counted by link, when those of all classes but one stand. -/
theorem flagChanges_of_class (h : ∀ m d, d ≠ c → (t.port m).queues.xoff[d] = (s.port m).queues.xoff[d]) :
    s.flagChanges t = allLinks.countP fun m => decide ((t.port m).queues.xoff[c] ≠ (s.port m).queues.xoff[c]) := by
  unfold State.flagChanges
  rw [Fintype.sum_prod_type, Fin.sum_univ_def, countP_ne_eq_sum]
  refine congrArg List.sum (List.map_congr_left fun m _ => ?_)
  exact Fintype.sum_eq_single c fun d hd => if_pos (h m d hd)

theorem setXoff_xoff (s : State) (l m : LinkId) (c d : ClassId) (b : Bool) :
    ((s.setXoff l c b).port m).queues.xoff[d] = if m = l ∧ d = c then b else (s.port m).queues.xoff[d] := by
  rw [((quiet_setXoff s l c b).port m).queues, port_modPort]
  by_cases hm : m = l
  · subst hm
    rw [if_pos rfl]
    exact (getElem_set_fin ..).trans (by simp)
  · rw [if_neg hm, if_neg fun h => hm h.1]

theorem flagged_setXoff (s : State) (l : LinkId) (c : ClassId) {b : Bool} (hg : g l c = b) : Flagged g s (s.setXoff l c b) := by
  refine ⟨fun m d => ?_, ?_⟩
  · rw [setXoff_xoff]
    split <;> rename_i h
    · rw [h.1, h.2]; exact .inr hg.symm
    · exact .inl rfl
  · have noticed := noticed_setXoff s l c b
    rw [flagChanges_of_one (l := l) (c := c) fun m d hne => ?_, setXoff_self]
    · simpa only [eq_comm] using noticed
    · rw [setXoff_xoff, if_neg fun h => hne (Prod.ext h.1 h.2)]

theorem flagged_xoffAfterAppend (s : State) (l : LinkId) (c : ClassId) : Flagged (fun _ _ => true) s (s.xoffAfterAppend l c) := by
  unfold State.xoffAfterAppend
  split
  · exact flagged_setXoff s l c rfl
  · exact .refl s

theorem flagged_xoffAfterRemoval (s : State) (l : LinkId) (c : ClassId) : Flagged (fun _ _ => false) s (s.xoffAfterRemoval l c) := by
  unfold State.xoffAfterRemoval
  split
  · exact flagged_setXoff s l c rfl
  · exact .refl s

/-- One queue replaced, whatever becomes of the buffer. -/
theorem flagged_setList (s : State) (l : LinkId) (c : ClassId) (xs : List Nat) (b : CellBuffer) :
    Flagged g s { s.modPort l (Port.setList c xs) with buffer := b } := by
  refine .of_same ((Noticed.modPort fun _ => rfl).trans (noticed_buffer ..)) fun m => ?_
  show ((s.modPort l _).port m).queues.xoff = _
  rw [port_modPort]
  split <;> rename_i h
  · rw [h]; rfl
  · rfl

theorem flagged_append (s : State) (l : LinkId) (c : ClassId) (slot : Nat) : Flagged (fun _ _ => true) s (s.append l c slot) :=
  (flagged_setList s l c _ _).trans (flagged_xoffAfterAppend _ l c)

end Sys2Proof.Machine
end

section
/-! SUPPORT. The two flags after an admission and after a removal, and the notice unit and the change notices that follow from them
(spec/05_cell_buffer_and_output_queues.md, R97, R99, R102, R103, R106, R108). -/

namespace Sys2Proof.Machine

variable {s t v : State} {l : LinkId} {c : ClassId} {g : LinkId → ClassId → Bool}

/-! ### Element flags (R181) -/

theorem elementFlag_bit_injective {f k : ElementFlag} (h : k.bit = f.bit) : k = f := by
  cases f <;> cases k <;> simp_all [ElementFlag.bit]

/-- R181: what stands latched after a latching that a condition guards. -/
theorem elementFlag_ite_latch (s : State) (p : Prop) [Decidable p] (f k : ElementFlag) :
    (if p then s.latch f else s).elementFlag k = (decide (p ∧ k = f) || s.elementFlag k) := by
  by_cases hp : p
  · rw [if_pos hp]
    by_cases hk : k = f
    · rw [hk, elementFlag_latch_self, decide_eq_true ⟨hp, rfl⟩, Bool.true_or]
    · rw [elementFlag_latch_ne s fun e => hk (elementFlag_bit_injective e), decide_eq_false fun h => hk h.2, Bool.false_or]
  · rw [if_neg hp, decide_eq_false fun h => hp h.1, Bool.false_or]

/-- Latching reads nothing but the notice unit. -/
theorem latch_notice_congr (h : t.notice = s.notice) (f : ElementFlag) : (t.latch f).notice = (s.latch f).notice := by
  unfold State.latch
  rw [h]

theorem ite_latch_notice_congr (h : t.notice = s.notice) {p q : Prop} [Decidable p] [Decidable q] (hpq : p ↔ q)
    (f : ElementFlag) : (if p then t.latch f else t).notice = (if q then s.latch f else s).notice := by
  rw [if_congr hpq rfl rfl]
  split
  · exact latch_notice_congr h f
  · exact h

/-! ### Flags moved and the global congestion flag evaluated -/

/-- From `s` to `t` XOFF flags and the global congestion flag have moved: each that moves is one change notice, and the setting of
the global flag latches GLOBAL_CONGESTION. -/
structure Evaluated (s t : State) : Prop where
  noticed : Noticed (s.flagChanges t + if t.buffer.congested = s.buffer.congested then 0 else 1) s t
  notice : t.notice =
    (if s.buffer.congested = false ∧ t.buffer.congested = true then s.latch .globalCongestion else s).notice

section
variable (h : Flagged g s v) (hc : v.buffer.congested = s.buffer.congested) (hn : v.notice = s.notice)
include h hc hn

/-- The global congestion flag is not evaluated. -/
theorem Flagged.evaluated : Evaluated s v where
  noticed := by rw [if_pos hc, Nat.add_zero]; exact h.noticed
  notice := by
    have unset : ¬(s.buffer.congested = false ∧ v.buffer.congested = true) := by simp [hc]
    rw [if_neg unset, hn]

theorem Flagged.evalCongestion : Evaluated s v.evalCongestion where
  noticed := by
    have same : s.flagChanges v.evalCongestion = s.flagChanges v := by
      simp only [State.flagChanges, ((quiet_evalCongestion v).port _).queues]
    rw [same, ← hc]
    exact h.noticed.trans (noticed_evalCongestion v)
  notice := by
    rw [evalCongestion_notice, hc]
    exact ite_latch_notice_congr hn Iff.rfl _

end

/-! ### One queue and its flag (R106) -/

theorem xoff_of_quiet {f : Port → Port} {b : Bool} (h : Quiet (s.modPort l f) t)
    (hf : (f (s.port l)).queues.xoff = (s.port l).queues.xoff.set c b) (m : LinkId) (d : ClassId) :
    (t.port m).queues.xoff[d] = if m = l ∧ d = c then b else (s.port m).queues.xoff[d] := by
  rw [(h.port m).queues, port_modPort]
  by_cases hm : m = l
  · subst hm
    rw [if_pos rfl, hf, getElem_set_fin]
    simp
  · rw [if_neg hm, if_neg fun h => hm h.1]

theorem append_xoff (s : State) (l : LinkId) (c : ClassId) (slot : Nat) (m : LinkId) (d : ClassId) :
    ((s.append l c slot).port m).queues.xoff[d] =
      if m = l ∧ d = c then decide (s.param (.xoffHi c) ≤ s.queueLength l c + 1) || (s.port l).queues.xoff[c]
      else (s.port m).queues.xoff[d] := by
  refine xoff_of_quiet (quiet_append s l c slot) ?_ m d
  rw [Port.append, raiseXoff_eq, setList_lists_self, List.length_append, List.length_singleton]
  rfl

theorem removeHead_xoff (s : State) (l : LinkId) (c : ClassId) (slot : Nat) (rest : List Nat) (m : LinkId) (d : ClassId) :
    ((s.removeHead l c slot rest).port m).queues.xoff[d] =
      if m = l ∧ d = c then !decide (rest.length ≤ s.param (.xoffLo c)) && (s.port l).queues.xoff[c]
      else (s.port m).queues.xoff[d] := by
  refine xoff_of_quiet (quiet_removeHead s l c slot rest) ?_ m d
  rw [Port.removeHead, lowerXoff_eq, setList_lists_self]
  rfl

/-! ### Descriptors appended (R97, R99, R106) -/

theorem flagged_foldl_append (c : ClassId) (slot : Nat) (targets : List Target) (s : State) :
    Flagged (fun _ _ => true) s (targets.foldl (fun t l => t.append l c slot) s) := by
  induction targets generalizing s with
  | nil => exact .refl s
  | cons l rest ih => exact (flagged_append s l c slot).trans (ih _)

theorem append_queueLength (s : State) (l : LinkId) (c : ClassId) (slot : Nat) (m : LinkId) :
    (s.append l c slot).queueLength m c = s.queueLength m c + if m = l then 1 else 0 := by
  show ((s.append l c slot).stock.queue m c).length = _
  rw [append_stock, Stock.enqueue]
  by_cases hm : m = l
  · subst hm
    simp
    rfl
  · simp [hm]
    rfl

theorem append_param (s : State) (l : LinkId) (c : ClassId) (slot : Nat) (k : Param) : (s.append l c slot).param k = s.param k := by
  rw [append_frame]; rfl

/-- R106: a flag is XOFF after the appends when it was so before, or when its queue has got a descriptor and stands at XOFF_HI. -/
theorem foldl_append_xoff (c : ClassId) (slot : Nat) (targets : List Target) (s : State) (m : LinkId) (d : ClassId) :
    ((targets.foldl (fun t l => t.append l c slot) s).port m).queues.xoff[d] =
      (decide (d = c ∧ 0 < targets.count m ∧ s.param (.xoffHi c) ≤ s.queueLength m c + targets.count m) ||
        (s.port m).queues.xoff[d]) := by
  induction targets generalizing s with
  | nil => simp
  | cons l rest ih =>
    rw [List.foldl_cons, ih, append_xoff, append_param, append_queueLength]
    by_cases hm : m = l
    · subst hm
      rw [List.count_cons_self, if_pos rfl]
      by_cases hd : d = c
      · subst hd
        rw [if_pos ⟨rfl, rfl⟩, ← Bool.or_assoc, ← Bool.decide_or]
        congr 2
        simp only [true_and, eq_iff_iff]
        omega
      · rw [if_neg fun h => hd h.2, decide_eq_false fun h => hd h.1, decide_eq_false fun h => hd h.1]
    · rw [List.count_cons_of_ne (Ne.symm hm), if_neg hm, if_neg fun h => hm h.1, Nat.add_zero]

/-! ### Admission (R97, R99, R102) -/

/-- The element when a cell has been stored and queued, before the global congestion flag is evaluated. -/
def State.queued (s : State) (c : ClassId) (cell : Cell) (targets : List Target) : State :=
  targets.foldl (fun t l => t.append l c (lowestFree 0 s.buffer.slots)) { s with buffer := s.buffer.store cell targets.length }

theorem admitCell_eq (s : State) (c : ClassId) (cell : Cell) (targets : List Target) :
    s.admitCell c cell targets = (s.queued c cell targets).evalCongestion.latchExhaustion := rfl

theorem queued_frame (s : State) (c : ClassId) (cell : Cell) (targets : List Target) :
    s.queued c cell targets =
      { s with ports := (s.queued c cell targets).ports, flow := (s.queued c cell targets).flow,
               buffer := { s.buffer.store cell targets.length with freeDesc := s.buffer.freeDesc - targets.length } } := by
  unfold State.queued
  rw [foldl_append_frame]
  rfl

theorem flagged_queued (s : State) (c : ClassId) (cell : Cell) (targets : List Target) :
    Flagged (fun _ _ => true) s (s.queued c cell targets) :=
  have stored : Flagged (fun _ _ => true) s { s with buffer := s.buffer.store cell targets.length } :=
    .of_same (noticed_buffer s _) fun _ => rfl
  stored.trans (flagged_foldl_append ..)

theorem queued_xoff (s : State) (c : ClassId) (cell : Cell) (targets : List Target) (m : LinkId) (d : ClassId) :
    ((s.queued c cell targets).port m).queues.xoff[d] =
      (decide (d = c ∧ 0 < targets.count m ∧ s.param (.xoffHi c) ≤ s.queueLength m c + targets.count m) ||
        (s.port m).queues.xoff[d]) :=
  foldl_append_xoff c _ targets { s with buffer := s.buffer.store cell targets.length } m d

theorem evaluated_queued (s : State) (c : ClassId) (cell : Cell) (targets : List Target) :
    Evaluated s (s.queued c cell targets).evalCongestion :=
  (flagged_queued s c cell targets).evalCongestion (by rw [queued_frame]; rfl) (by rw [queued_frame])

theorem latchExhaustion_notice (s : State) : s.latchExhaustion.notice =
    (if s.buffer.freeDesc = 0 then (if s.buffer.free = 0 then s.latch .bufferExhausted else s).latch .poolExhausted
      else if s.buffer.free = 0 then s.latch .bufferExhausted else s).notice := by
  unfold State.latchExhaustion
  split_ifs <;> simp_all

/-! ### Removal (R103) -/

/-- The element when the head descriptor has left its queue and its slot, before any flag is evaluated. -/
def State.unqueued (s : State) (l : LinkId) (c : ClassId) (slot : Nat) (rest : List Nat) : State :=
  { s.modPort l (Port.setList c rest) with
    buffer := { s.buffer.release slot with freeDesc := (s.buffer.release slot).freeDesc + 1 } }

theorem removeHead_eq (s : State) (l : LinkId) (c : ClassId) (slot : Nat) (rest : List Nat) :
    s.removeHead l c slot rest =
      if (s.buffer.release slot).free = s.buffer.free then (s.unqueued l c slot rest).xoffAfterRemoval l c
      else ((s.unqueued l c slot rest).xoffAfterRemoval l c).evalCongestion := rfl

theorem release_congested (b : CellBuffer) (slot : Nat) : (b.release slot).congested = b.congested := by
  unfold CellBuffer.release
  split <;> rfl

theorem unqueued_xoffAfterRemoval_buffer (s : State) (l : LinkId) (c : ClassId) (slot : Nat) (rest : List Nat) :
    ((s.unqueued l c slot rest).xoffAfterRemoval l c).buffer =
      { s.buffer.release slot with freeDesc := (s.buffer.release slot).freeDesc + 1 } := by
  rw [xoffAfterRemoval_frame]; rfl

theorem evaluated_removeHead (s : State) (l : LinkId) (c : ClassId) (slot : Nat) (rest : List Nat) :
    Evaluated s (s.removeHead l c slot rest) := by
  have removed : Flagged (fun _ _ => false) s ((s.unqueued l c slot rest).xoffAfterRemoval l c) :=
    (flagged_setList s l c rest _).trans (flagged_xoffAfterRemoval _ l c)
  have congested : ((s.unqueued l c slot rest).xoffAfterRemoval l c).buffer.congested = s.buffer.congested := by
    rw [unqueued_xoffAfterRemoval_buffer]; exact release_congested ..
  have notice : ((s.unqueued l c slot rest).xoffAfterRemoval l c).notice = s.notice := by
    rw [xoffAfterRemoval_frame]; rfl
  rw [removeHead_eq]
  split
  · exact removed.evaluated congested notice
  · exact removed.evalCongestion congested notice

/-- R103, R108: the global congestion flag after a removal: evaluated when F has changed. -/
theorem removeHead_congested (s : State) (l : LinkId) (c : ClassId) (slot : Nat) (rest : List Nat) :
    (s.removeHead l c slot rest).buffer.congested =
      if (s.buffer.release slot).free = s.buffer.free then s.buffer.congested
      else if (s.buffer.release slot).free < s.param .fPanic then true
      else if s.param .fResume ≤ (s.buffer.release slot).free then false else s.buffer.congested := by
  have param (k : Param) : ((s.unqueued l c slot rest).xoffAfterRemoval l c).param k = s.param k := by
    rw [xoffAfterRemoval_frame]; rfl
  rw [removeHead_eq, ← release_congested s.buffer slot]
  split
  · rw [unqueued_xoffAfterRemoval_buffer]
  · rw [evalCongestion_congested, param, param, unqueued_xoffAfterRemoval_buffer]

end Sys2Proof.Machine
end

section
/-! SUPPORT. The admission threshold, the judgement of targets, and what an admission does
(spec/05_cell_buffer_and_output_queues.md, R95, R97 to R102). -/

namespace Sys2Proof.Machine

variable {s t : State} {arrival l : LinkId} {c : ClassId} {cell : Cell} {target : Target} {targets : List Target}

/-! ### The threshold (R95) -/

theorem threshold_eq (s : State) (c : ClassId) :
    s.threshold c = min 1024 (max 2 (s.buffer.free * 2 ^ s.param (.alpha c) / 8)) := rfl

/-- R94: the default codes. -/
theorem alpha_reset (h : s.agent.params = Params.reset) :
    s.param (.alpha 0) = 5 ∧ s.param (.alpha 1) = 4 ∧ s.param (.alpha 2) = 3 ∧ s.param (.alpha 3) = 2 := by
  unfold State.param
  rw [h]
  decide

/-! ### A unicast cell (R97) -/

theorem judgeUnicast_empty (h : s.buffer.free = 0) : s.judgeUnicast c target = some .bufferFull := if_pos h

section
variable (hf : 1 ≤ s.buffer.free)
include hf

theorem judgeUnicast_limit (h : s.threshold c ≤ s.queueLength target c) : s.judgeUnicast c target = some .queueLimit :=
  (if_neg (Nat.ne_of_gt hf)).trans (if_pos h)

theorem judgeUnicast_room (h : s.queueLength target c < s.threshold c) :
    s.judgeUnicast c target = if s.buffer.freeDesc = 0 then some .bufferFull else none :=
  (if_neg (Nat.ne_of_gt hf)).trans (if_neg (Nat.not_le.2 h))

end

theorem admitUnicast_refused {r : Refused} (h : s.judgeUnicast c target = some r) :
    s.admitUnicast arrival c cell target = s.countLink arrival r.counter := by
  rw [State.admitUnicast, h]

theorem admitUnicast_taken (h : s.judgeUnicast c target = none) :
    s.admitUnicast arrival c cell target = s.admitCell c cell [target] := by
  rw [State.admitUnicast, h]

/-- Settles O20: the threshold by its formula. -/
theorem admissionThreshold : Obligations.AdmissionThreshold := by
  refine ⟨fun s c => ⟨threshold_eq s c, two_le_threshold .., threshold_le ..⟩, fun s t c hf ha => ?_, fun s h => ?_,
    fun s c h hf => ?_, fun s arrival c cell targets hf => ⟨fun target => ?_, if_pos hf⟩⟩
  · rw [threshold_eq, threshold_eq, hf, ha]
  · obtain ⟨zero, one, two, three⟩ := alpha_reset h
    rw [threshold_eq, threshold_eq, threshold_eq, threshold_eq, zero, one, two, three]
    omega
  · rw [threshold_eq, h]
    omega
  · exact admitUnicast_refused (judgeUnicast_empty hf)

/-! ### A multicast cell (R98 to R100) -/

/-- R98: the targets are judged in order. -/
theorem judgeTargets_snoc (hf : 1 ≤ s.buffer.free) (targets : List Target) (l : Target) :
    s.judgeTargets c (targets ++ [l]) = s.judgeTarget c (s.judgeTargets c targets) l := by
  unfold State.judgeTargets
  rw [if_neg (Nat.ne_of_gt hf), if_neg (Nat.ne_of_gt hf), List.foldl_append]
  rfl

theorem admitMulticast_some (h : (s.judgeTargets c targets).admitted ≠ []) :
    s.admitMulticast arrival c cell targets =
      (s.admitCell c cell (s.judgeTargets c targets).admitted).countDrops (s.judgeTargets c targets).refused :=
  if_neg fun e => h (List.isEmpty_iff.1 e)

theorem admitMulticast_none (h : (s.judgeTargets c targets).admitted = []) :
    s.admitMulticast arrival c cell targets =
      (s.countDrops (s.judgeTargets c targets).refused).countWholeLoss arrival (s.judgeTargets c targets).refused :=
  if_pos (List.isEmpty_iff.2 h)

theorem countWholeLoss_last {refused : List (Target × Refused)} {why : Refused} (h : refused.getLast? = some (l, why)) :
    s.countWholeLoss arrival refused = s.countLink arrival why.counter := by
  rw [State.countWholeLoss, h]

theorem refused_counter_eq (r : Refused) : r.counter = if r = .queueLimit then .queueLimit else .bufferFull := by
  cases r <;> rfl

/-- Settles O21: the cases of `State.judgeUnicast` and `State.judgeTarget`, in their order. -/
theorem admissionCases : Obligations.AdmissionCases := by
  refine ⟨fun s arrival c cell target => ⟨fun hf => ?_, fun hf hq => ?_, fun hf hq hd => ?_, fun hf hq hd => ?_⟩,
    fun s arrival c cell targets => ⟨fun hf => if_pos hf, fun hf => if_neg (Nat.ne_of_gt hf), fun hf l j hj => ?_,
      fun j hj hn => ?_, fun j l why hj hn hl => ?_⟩⟩
  · exact admitUnicast_refused (judgeUnicast_empty hf)
  · exact admitUnicast_refused (judgeUnicast_limit hf hq)
  · exact admitUnicast_refused ((judgeUnicast_room hf hq).trans (if_pos hd))
  · exact admitUnicast_taken ((judgeUnicast_room hf hq).trans (if_neg (Nat.ne_of_gt hd)))
  · rw [judgeTargets_snoc hf, ← hj]
    refine ⟨fun hq => if_pos hq, fun hq hd => (if_neg (Nat.not_le.2 hq)).trans (if_pos hd), fun hq hd => ?_⟩
    exact (if_neg (Nat.not_le.2 hq)).trans (if_neg (Nat.not_le.2 hd))
  · subst hj
    exact admitMulticast_some hn
  · subst hj
    rw [admitMulticast_none hn, countWholeLoss_last hl, refused_counter_eq]
    rfl

/-! ### What an admission does (R90 to R92, R97, R99, R102, R106, R108) -/

/-- R99: the queues after an admission. -/
theorem admitCell_lists (s : State) (c : ClassId) (cell : Cell) (targets : List Target) (m : LinkId) (d : ClassId) :
    ((s.admitCell c cell targets).port m).queues.lists[d] = (s.port m).queues.lists[d] ++
      if d = c then List.replicate (targets.count m) (lowestFree 0 s.buffer.slots) else [] :=
  congrFun (congrFun (congrArg Stock.queue ((admitCell_stock ..).trans (admitted_eq s.stock c cell targets))) m) d

theorem admitCell_buffer (s : State) (c : ClassId) (cell : Cell) (targets : List Target) :
    (s.admitCell c cell targets).buffer =
      { slots := insertSlot { id := lowestFree 0 s.buffer.slots, cell := cell, refs := targets.length } s.buffer.slots
        free := s.buffer.free - 1
        freeDesc := s.buffer.freeDesc - targets.length
        congested := (s.admitCell c cell targets).buffer.congested } :=
  congrArg State.buffer (admit_frame s c cell targets)

/-- R106: the flags after an admission. -/
theorem admitCell_xoff (s : State) (c : ClassId) (cell : Cell) (targets : List Target) (m : LinkId) (d : ClassId) :
    ((s.admitCell c cell targets).port m).queues.xoff[d] =
      if d = c ∧ 0 < targets.count m ∧ s.param (.xoffHi c) ≤ ((s.admitCell c cell targets).port m).queues.lists[c].length
      then true else (s.port m).queues.xoff[d] := by
  have length : ((s.admitCell c cell targets).port m).queues.lists[c].length = s.queueLength m c + targets.count m := by
    rw [admitCell_lists, if_pos rfl, List.length_append, List.length_replicate]
    rfl
  rw [length, admitCell_eq, ((quiet_latchExhaustion _).port m).queues, ((quiet_evalCongestion _).port m).queues, queued_xoff]
  split <;> rename_i h
  · rw [decide_eq_true h, Bool.true_or]
  · rw [decide_eq_false h, Bool.false_or]

/-- R108: the global congestion flag after an admission follows the new F. -/
theorem admitCell_congested (s : State) (c : ClassId) (cell : Cell) (targets : List Target) :
    (s.admitCell c cell targets).buffer.congested =
      if (s.admitCell c cell targets).buffer.free < s.param .fPanic then true
      else if s.param .fResume ≤ (s.admitCell c cell targets).buffer.free then false else s.buffer.congested := by
  rw [admitCell_buffer, admitCell_eq, latchExhaustion_frame]
  dsimp only
  rw [evalCongestion_congested, queued_frame]
  rfl

/-- R97, R99, R106, R108: an admission evaluates flags, and then latches the exhaustion flags. -/
theorem evaluated_admitCell (s : State) (c : ClassId) (cell : Cell) (targets : List Target) :
    ∃ v, Evaluated s v ∧ s.admitCell c cell targets = v.latchExhaustion ∧
      v.buffer = (s.admitCell c cell targets).buffer ∧ v.ports = (s.admitCell c cell targets).ports :=
  ⟨_, evaluated_queued s c cell targets, admitCell_eq .., by rw [admitCell_eq, latchExhaustion_frame],
    by rw [admitCell_eq, latchExhaustion_frame]⟩

/-- R106, R108, R120: the change notices of an admission. -/
theorem noticed_admitCell (s : State) (c : ClassId) (cell : Cell) (targets : List Target) :
    Noticed (s.flagChanges (s.admitCell c cell targets) +
      if (s.admitCell c cell targets).buffer.congested = s.buffer.congested then 0 else 1) s (s.admitCell c cell targets) := by
  obtain ⟨v, hv, he, hb, hp⟩ := evaluated_admitCell s c cell targets
  have port (m : LinkId) : (s.admitCell c cell targets).port m = v.port m := congrArg (·[m]) hp.symm
  have same : s.flagChanges (s.admitCell c cell targets) = s.flagChanges v := by simp only [State.flagChanges, port]
  rw [same, ← hb]
  exact hv.noticed.beside (.of_ports (by rw [he, latchExhaustion_frame]) (by rw [he, latchExhaustion_frame]) hp.symm)

/-- R102, R108, R184: the notice unit after an admission. -/
theorem admitCell_notice {u v w : State} (ht : t = s.admitCell c cell targets)
    (hu : u = if s.buffer.congested = false ∧ t.buffer.congested = true then s.latch .globalCongestion else s)
    (hv : v = if t.buffer.free = 0 then u.latch .bufferExhausted else u)
    (hw : w = if t.buffer.freeDesc = 0 then v.latch .poolExhausted else v) : t.notice = w.notice := by
  obtain ⟨x, hx, he, hb, -⟩ := evaluated_admitCell s c cell targets
  rw [← ht] at he hb
  have notice := hx.notice
  rw [hb, ← hu] at notice
  rw [he, latchExhaustion_notice, hb, hw]
  exact ite_latch_notice_congr (by rw [hv]; exact ite_latch_notice_congr notice Iff.rfl _) Iff.rfl _

/-- R102, R108: the element flags after an admission. -/
theorem admitCell_elementFlag (ht : t = s.admitCell c cell targets) (k : ElementFlag) : t.elementFlag k =
    (decide (t.buffer.freeDesc = 0 ∧ k = .poolExhausted) || (decide (t.buffer.free = 0 ∧ k = .bufferExhausted) ||
      (decide ((s.buffer.congested = false ∧ t.buffer.congested = true) ∧ k = .globalCongestion) || s.elementFlag k))) := by
  rw [← elementFlag_ite_latch, ← elementFlag_ite_latch, ← elementFlag_ite_latch]
  exact congrArg (·.flags.getLsbD k.bit) (admitCell_notice ht rfl rfl rfl)

/-- Settles O22: what is held by `admitCell_stock`, the flags by `admitCell_xoff` and `admitCell_congested`, and the rest by
`evaluated_admitCell` and the frame. -/
theorem admissionEffect : Obligations.AdmissionEffect := by
  intro s c cell targets t hs hf hn hd ht
  obtain ⟨hid, hfree⟩ := (bufferConserved_iff.1 hs).lowestFree hf
  have buffer := admitCell_buffer s c cell targets
  have flag := admitCell_elementFlag ht
  have congested := admitCell_congested s c cell targets
  have lists := admitCell_lists s c cell targets
  have xoff := admitCell_xoff s c cell targets
  have frame := admit_frame s c cell targets
  have noticed := noticed_admitCell s c cell targets
  rw [← ht] at buffer congested lists xoff frame noticed
  have free : t.buffer.free = s.buffer.free - 1 := by rw [buffer]
  have descs : t.buffer.freeDesc = s.buffer.freeDesc - targets.length := by rw [buffer]
  refine ⟨lowestFree 0 s.buffer.slots, hid, hfree, fun x => ?_, by omega, by omega, lists, fun h => ?_, fun h => ?_, fun h => ?_,
    fun h => ?_, xoff, congested, ?_, fun f hbuffer hpool hglobal => ?_, fun u v w hu hv hw => admitCell_notice ht hu hv hw,
    fun n u hn hu => ?_, ?_⟩
  · rw [buffer, mem_insertSlot]
    exact or_comm
  · simp [flag, h]
  · simp [flag, h]
  · simp [flag, h.ne']
  · simp [flag, h.ne']
  · simp [flag, or_comm]
  · simp [flag, hbuffer, hpool, hglobal]
  · rw [flagChanges_of_class (c := c) fun m d hd => by rw [xoff, if_neg fun h => hd h.1], ← hn] at noticed
    subst hu
    exact ⟨noticed.flow, noticed.port⟩
  · rw [frame]
    exact ⟨rfl, rfl, rfl, rfl, rfl, rfl⟩

end Sys2Proof.Machine
end

section
/-! SUPPORT. Removals, the evaluations of the congestion flags, flushes, and the sending of a queue's head
(spec/05_cell_buffer_and_output_queues.md, R103, R104, R106 to R111; spec/02_fabric_links.md, R29, R39;
spec/06_congestion_signalling_and_credits.md, R129). -/

namespace Sys2Proof.Machine

variable {s t : State} {l : LinkId} {c : ClassId} {id : Nat} {rest : List Nat} {x : Slot}

/-! ### Removing the head of a queue (R91, R92, R103) -/

theorem removeHead_queue (s : State) (l : LinkId) (c : ClassId) (id : Nat) (rest : List Nat) (m : LinkId) (d : ClassId) :
    ((s.removeHead l c id rest).port m).queues.lists[d] = if m = l ∧ d = c then rest else (s.port m).queues.lists[d] :=
  congrFun (congrFun (congrArg Stock.queue (removeHead_stock s l c id rest)) m) d

theorem removeHead_free (s : State) (l : LinkId) (c : ClassId) (id : Nat) (rest : List Nat) :
    (s.removeHead l c id rest).buffer.free = (s.buffer.release id).free := by rw [removeHead_frame]

/-- R91: the slots and F after a removal. -/
theorem removeHead_slots (hs : s.BufferConserved) (hx : x ∈ s.buffer.slots) (ht : t = s.removeHead l c x.id rest) :
    (x.refs ≤ 1 → t.buffer.free = s.buffer.free + 1 ∧ ∀ y, y ∈ t.buffer.slots ↔ y ∈ s.buffer.slots ∧ y.id ≠ x.id) ∧
    (1 < x.refs → t.buffer.free = s.buffer.free ∧
      ∀ y, y ∈ t.buffer.slots ↔ (y ∈ s.buffer.slots ∧ y.id ≠ x.id) ∨ y = { x with refs := x.refs - 1 }) := by
  obtain ⟨last, shared⟩ := dequeue_slots (k := s.stock) (l := l) (c := c) (rest := rest) (bufferConserved_iff.1 hs).matched hx
  rw [← removeHead_stock, ← ht] at last shared
  refine ⟨fun h => ?_, fun h => ?_⟩
  · obtain ⟨free, -, slots⟩ := last h
    exact ⟨free, slots⟩
  · obtain ⟨free, -, slots⟩ := shared h
    exact ⟨free, slots⟩

/-- Settles O23: what is held by `removeHead_stock`, the flags by `removeHead_xoff` and `removeHead_congested`, and the rest by
`evaluated_removeHead` and the frame. -/
theorem headRemoval : Obligations.HeadRemoval := by
  intro s l c id rest x t hs hq hx hid ht
  subst hid
  obtain ⟨last, shared⟩ := removeHead_slots hs hx ht
  have queue := removeHead_queue s l c x.id rest
  have xoff := removeHead_xoff s l c x.id rest
  have congested := removeHead_congested s l c x.id rest
  have descs : (s.removeHead l c x.id rest).buffer.freeDesc = s.buffer.freeDesc + 1 :=
    congrArg Stock.freeDesc (removeHead_stock s l c x.id rest)
  have frame := removeHead_frame s l c x.id rest
  obtain ⟨noticed, notice⟩ := evaluated_removeHead s l c x.id rest
  rw [← removeHead_free s l c x.id rest] at congested
  rw [← ht] at queue xoff congested descs frame noticed notice
  have others (m : LinkId) (k : ClassId) (h : m ≠ l ∨ k ≠ c) : ¬(m = l ∧ k = c) := fun h' => h.elim (· h'.1) (· h'.2)
  refine ⟨(queue l c).trans (if_pos ⟨rfl, rfl⟩), fun m k h => (queue m k).trans (if_neg (others m k h)), descs, fun h => ?_,
    fun h => ?_, fun h => ?_, fun h => ?_, fun m k h => (xoff m k).trans (if_neg (others m k h)), notice, fun n u hn hu => ?_, ?_⟩
  · obtain ⟨free, slots⟩ := last h.le
    exact ⟨free, congested.trans (if_neg (by omega)), slots⟩
  · obtain ⟨free, slots⟩ := shared h
    exact ⟨free, congested.trans (if_pos free), slots⟩
  · rw [xoff, if_pos ⟨rfl, rfl⟩, decide_eq_true h]; rfl
  · rw [xoff, if_pos ⟨rfl, rfl⟩, decide_eq_false (Nat.not_le.2 h)]; rfl
  · rw [flagChanges_of_one (l := l) (c := c) fun m d h => by
      rw [xoff, if_neg fun h' => h (Prod.ext h'.1 h'.2)], ← hn] at noticed
    subst hu
    exact ⟨noticed.flow, noticed.port⟩
  · rw [frame]
    exact ⟨rfl, rfl, rfl, rfl, rfl, rfl⟩

/-! ### The evaluations (R106 to R108) -/

theorem setCongested_eq {b : Bool} (h : s.buffer.congested = b) : s.setCongested b = s := if_pos h

theorem evalCongestion_panic (h : s.buffer.free < s.param .fPanic) : s.evalCongestion = s.setCongested true := if_pos h

theorem evalCongestion_resume (hp : s.param .fPanic ≤ s.buffer.free) (hr : s.param .fResume ≤ s.buffer.free) :
    s.evalCongestion = s.setCongested false :=
  (if_neg (Nat.not_lt.2 hp)).trans (if_pos hr)

theorem evalCongestion_between (hp : s.param .fPanic ≤ s.buffer.free) (hr : s.buffer.free < s.param .fResume) :
    s.evalCongestion = s :=
  (if_neg (Nat.not_lt.2 hp)).trans (if_neg (Nat.not_le.2 hr))

/-- Settles O24: each evaluation by the flag it sets. -/
theorem congestionEvaluations : Obligations.CongestionEvaluations := by
  refine ⟨fun s l c => rfl, fun s l c b => ⟨fun h => if_pos h, fun h => if_neg h⟩, fun s l c => ⟨rfl, rfl, rfl⟩, fun s =>
    ⟨fun h hc => ?_, fun hp hr hc => ?_, fun hp hr => evalCongestion_between hp hr, fun h hc => ?_, fun hp hc => ?_⟩⟩
  · rw [evalCongestion_panic h]
    exact if_neg (by simp [hc])
  · rw [evalCongestion_resume hp hr]
    exact if_neg (by simp [hc])
  · rw [evalCongestion_panic h, setCongested_eq hc]
  · rcases Nat.lt_or_ge s.buffer.free (s.param .fResume) with hr | hr
    · exact evalCongestion_between hp hr
    · rw [evalCongestion_resume hp hr, setCongested_eq hc]

/-! ### Flushes (R29, R109 to R111) -/

theorem completeFlush_waiting (hq : (s.port l).unit.state = .qualify) (hn : (s.port l).unit.qualified = true) :
    s.completeFlush l = (s.modPort l Port.flushDone).enterUp l := by
  rw [State.completeFlush, if_pos (by rw [port_modPort_self]; simp [hq, hn])]
  rfl

theorem completeFlush_other (h : (s.port l).unit.state ≠ .qualify ∨ (s.port l).unit.qualified = false) :
    s.completeFlush l = s.modPort l Port.flushDone := by
  rw [State.completeFlush, if_neg (by rw [port_modPort_self]; rcases h with h | h <;> simp [h])]
  rfl

section
variable (hf : (s.port l).queues.flushing = false)
include hf

theorem requestFlush_queued (ht : 0 < (s.port l).queues.total) :
    s.requestFlush l = s.modPort l fun p => { p with queues := { p.queues with flushing := true } } := by
  rw [State.requestFlush, if_neg (by simp [hf])]
  exact if_neg (by rw [port_modPort_self]; exact ht.ne')

theorem requestFlush_empty (ht : (s.port l).queues.total = 0)
    (h : (s.port l).unit.state ≠ .qualify ∨ (s.port l).unit.qualified = false) :
    s.requestFlush l = s.modPort l Port.flushDone := by
  rw [State.requestFlush, if_neg (by simp [hf])]
  refine (if_pos (by rw [port_modPort_self]; exact ht)).trans ?_
  rw [completeFlush_other (by rw [port_modPort_self]; exact h), modPort_modPort]
  rfl

end

theorem allClasses_split : ∀ c : ClassId, allClasses = allClasses.take c.val ++ c :: allClasses.drop (c.val + 1) ∧
    ∀ k ∈ allClasses.take c.val, k < c := by decide

/-- R110: the first class that holds descriptors. -/
theorem firstClass_eq_some {q : LinkQueues} (hk : ∀ k : ClassId, k < c → q.lists[k] = []) (hq : q.lists[c] = id :: rest) :
    q.firstClass = some c := by
  obtain ⟨classes, before⟩ := allClasses_split c
  unfold LinkQueues.firstClass
  rw [List.find?_eq_some_iff_append]
  exact ⟨by rw [hq]; rfl, _, _, classes, fun k h => by rw [hk k (before k h)]; rfl⟩

theorem exec_flushRemoval (hr : s.inReset = false) : exec (.flushRemoval l) s = .next (s.flushOne l) := act_run _ hr

theorem exec_flushCompletion (hr : s.inReset = false) : exec (.flushCompletion l) s = .next (s.flushEnd l) := act_run _ hr

section
variable (hf : (s.port l).queues.flushing = true)
include hf

theorem flushOne_head (hk : ∀ k : ClassId, k < c → (s.port l).queues.lists[k] = [])
    (hq : (s.port l).queues.lists[c] = id :: rest) : s.flushOne l = (s.removeHead l c id rest).countLink l .flushed := by
  rw [State.flushOne, if_pos hf, firstClass_eq_some hk hq]
  simp only [hq]

theorem flushEnd_empty (hq : ∀ k : ClassId, (s.port l).queues.lists[k] = []) : s.flushEnd l = s.completeFlush l := by
  have total : (s.port l).queues.total = 0 := total_eq_zero_iff.2 hq
  rw [State.flushEnd, if_pos (by simp [hf, total])]

end

/-- Settles O25: requests, removals and completions by the state of the queues. -/
theorem flushes : Obligations.Flushes := by
  rintro s l q rfl
  refine ⟨rfl, fun hf => if_pos hf, fun hf ht => requestFlush_queued hf ht, fun hf ht h => requestFlush_empty hf ht h,
    fun hr hf => ⟨fun c id rest hk hq => ?_, fun hq t ht => ⟨fun hs hn => ?_, fun h => ?_⟩⟩⟩
  · rw [exec_flushRemoval hr, flushOne_head hf hk hq]
  · rw [exec_flushCompletion hr, flushEnd_empty hf hq, completeFlush_waiting hs hn, ht]
    rfl
  · rw [exec_flushCompletion hr, flushEnd_empty hf hq, completeFlush_other h, ht]
    rfl

/-! ### Sending the head of a queue (R39, R103, R104, R129) -/

theorem headCell_eq (hs : s.BufferConserved) (hq : (s.port l).queues.lists[c] = x.id :: rest) (hx : x ∈ s.buffer.slots) :
    s.headCell l c = some x.cell := by
  have found := findSlot_of_mem (bufferConserved_iff.1 hs).matched.rising hx
  simp only [State.headCell, hq]
  exact congrArg (Option.map (·.cell)) found

theorem sendData_head (hq : (s.port l).queues.lists[c] = id :: rest) : s.sendData l c =
    (((s.hand l (s.headCell l c)).removeHead l c id rest).modPort l fun p => p.countSent c).tellQueuesEmpty l := by
  simp only [State.sendData, hq]

/-- A removal moves nothing of a link but its queues, their flags and FLOW-due. -/
theorem removeHead_port (s : State) (l : LinkId) (c : ClassId) (id : Nat) (rest : List Nat) (m : LinkId) :
    (s.removeHead l c id rest).port m = { s.port m with
      queues := ((s.removeHead l c id rest).port m).queues, flowDue := ((s.removeHead l c id rest).port m).flowDue } := by
  conv_lhs => rw [(evaluated_removeHead s l c id rest).noticed.port]
  rw [(evaluated_removeHead s l c id rest).noticed.port]

theorem tellQueuesEmpty_other (h : (s.port l).unit.state ≠ .draining ∨ (s.port l).queues.total ≠ 0) :
    s.tellQueuesEmpty l = s := if_neg (by rcases h with h | h <;> simp [h])

theorem tellQueuesEmpty_drained (hd : (s.port l).unit.state = .draining) (ht : (s.port l).queues.total = 0) :
    s.tellQueuesEmpty l = s.endDrain l := if_pos (by simp [hd, ht])

/-- R104: the report that the queues are empty leaves the transmitter and the credits. -/
theorem tellQueuesEmpty_port (s : State) (l : LinkId) :
    ((s.tellQueuesEmpty l).port l).transmitter = (s.port l).transmitter ∧
      ((s.tellQueuesEmpty l).port l).credit = (s.port l).credit := by
  unfold State.tellQueuesEmpty State.endDrain
  split
  · rw [emptyControl_port_self, port_modUnit_self]; exact ⟨rfl, rfl⟩
  · exact ⟨rfl, rfl⟩

/-- Settles O31: the head's cell by `headCell_eq`, and the report of R104 by the state of the link. -/
theorem sendingData : Obligations.SendingData := by
  intro s l c x rest u t hs hq hx hu ht
  have sent : t = u.tellQueuesEmpty l := by
    rw [ht, sendData_head hq, headCell_eq hs hq hx, hu]
    rfl
  have port : u.port l = { s.port l with
      queues := (u.port l).queues, flowDue := (u.port l).flowDue, transmitter := some x.cell
      credit := { (s.port l).credit with sent := (s.port l).credit.sent.set c ((s.port l).credit.sent[c] + 1) } } := by
    rw [hu, port_modPort_self, removeHead_port, port_modPort_self]
  have state : (u.port l).unit.state = (s.port l).unit.state := by rw [port]
  obtain ⟨transmitter, credit⟩ := tellQueuesEmpty_port u l
  rw [← sent] at transmitter credit
  refine ⟨fun h => ?_, fun hd h => ?_, by rw [transmitter, port], by rw [credit, port]; exact Vector.getElem_set_self _,
    fun k hk => ?_, by rw [credit, port]⟩
  · rw [sent, tellQueuesEmpty_other (by rwa [state])]
  · rw [sent, tellQueuesEmpty_drained (state.trans hd) h]
    rfl
  · rw [credit, port]
    exact (getElem_set_fin ..).trans (if_neg hk)

end Sys2Proof.Machine
end

section
/-! SUPPORT. Flags evaluated anew under other thresholds, and a boot failure (spec/05_cell_buffer_and_output_queues.md, R107, R108;
spec/11_start_up_and_boot_image.md, R192, R197). -/

namespace Sys2Proof.Machine

variable {s t u : State} {l : LinkId} {c d : ClassId} {n : Nat}

/-! ### XOFF flags evaluated anew (R107) -/

/-- The value of an XOFF flag evaluated anew: its queue's length against the thresholds, and between them as it stands. -/
def newXoff (k : Params) (c : ClassId) (length : Nat) (flag : Bool) : Bool :=
  if paramValue k (.xoffHi c) ≤ length then true else if length ≤ paramValue k (.xoffLo c) then false else flag

theorem newXoff_newXoff (k : Params) (c : ClassId) (length : Nat) (flag : Bool) :
    newXoff k c length (newXoff k c length flag) = newXoff k c length flag := by
  unfold newXoff
  split_ifs <;> rfl

theorem reevaluate_xoff (k : Params) (p : Port) (c d : ClassId) : (p.reevaluate k c).queues.xoff[d] =
    if d = c then newXoff k c p.queues.lists[c].length p.queues.xoff[c] else p.queues.xoff[d] := by
  by_cases h : d = c
  · subst h
    rw [if_pos rfl]
    unfold Port.reevaluate newXoff
    split_ifs
    · exact setXoff_xoff_self ..
    · exact setXoff_xoff_self ..
    · rfl
  · rw [reevaluate_eq, setXoff_xoff_ne _ _ h, if_neg h]

theorem foldl_reevaluate_xoff (k : Params) (cs : List ClassId) (p : Port) (d : ClassId) :
    (cs.foldl (Port.reevaluate k) p).queues.xoff[d] =
      if d ∈ cs then newXoff k d p.queues.lists[d].length p.queues.xoff[d] else p.queues.xoff[d] := by
  induction cs generalizing p with
  | nil => rfl
  | cons c rest ih =>
    have lists : (p.reevaluate k c).queues.lists = p.queues.lists := (xoffMoved_reevaluate p k [c]).lists
    rw [List.foldl_cons, ih, lists, reevaluate_xoff]
    by_cases hd : d = c
    · subst hd
      simp [newXoff_newXoff]
    · simp [hd]

/-- R107: the flags of the classes evaluated, and of the others. -/
theorem foldl_xoffReevaluateClass_xoff (cs : List ClassId) (s : State) (m : LinkId) (d : ClassId) :
    ((cs.foldl State.xoffReevaluateClass s).port m).queues.xoff[d] =
      if d ∈ cs then newXoff s.agent.params d (s.queueLength m d) (s.port m).queues.xoff[d]
      else (s.port m).queues.xoff[d] := by
  rw [((quiet_foldl_xoffReevaluateClass cs s).port m).queues, port_mapPorts, foldl_reevaluate_xoff]
  rfl

/-- Evaluated anew, a flag moves to whether its queue stands at or above XOFF_HI. -/
def State.atHigh (s : State) (l : LinkId) (c : ClassId) : Bool := decide (s.param (.xoffHi c) ≤ s.queueLength l c)

theorem flagged_xoffReevaluate (s : State) (l : LinkId) (c : ClassId) : Flagged s.atHigh s (s.xoffReevaluate l c) := by
  unfold State.xoffReevaluate
  split <;> rename_i h
  · exact flagged_setXoff s l c (decide_eq_true h)
  · split
    · exact flagged_setXoff s l c (decide_eq_false h)
    · exact .refl s

theorem atHigh_congr (ha : t.agent = s.agent) (hs : t.stock = s.stock) : t.atHigh = s.atHigh := by
  funext m d
  have length : t.queueLength m d = s.queueLength m d := congrArg (fun k => (k.queue m d).length) hs
  rw [State.atHigh, State.atHigh, State.param, State.param, ha, length]

theorem xoffReevaluateClass_frame (s : State) (c : ClassId) : s.xoffReevaluateClass c =
    { s with ports := (s.xoffReevaluateClass c).ports, flow := (s.xoffReevaluateClass c).flow } := by
  have frame (ls : List LinkId) (s : State) : ls.foldl (fun t l => t.xoffReevaluate l c) s =
      { s with ports := (ls.foldl (fun t l => t.xoffReevaluate l c) s).ports
               flow := (ls.foldl (fun t l => t.xoffReevaluate l c) s).flow } := by
    induction ls generalizing s with
    | nil => rfl
    | cons l rest ih => rw [List.foldl_cons, ih, xoffReevaluate_frame]
  exact frame allLinks s

theorem foldl_xoffReevaluateClass_frame (cs : List ClassId) (s : State) : cs.foldl State.xoffReevaluateClass s =
    { s with ports := (cs.foldl State.xoffReevaluateClass s).ports, flow := (cs.foldl State.xoffReevaluateClass s).flow } := by
  induction cs generalizing s with
  | nil => rfl
  | cons c rest ih => rw [List.foldl_cons, ih, xoffReevaluateClass_frame]

theorem xoffReevaluate_atHigh (s : State) (l : LinkId) (c : ClassId) : (s.xoffReevaluate l c).atHigh = s.atHigh :=
  atHigh_congr (by rw [xoffReevaluate_frame]) (xoffReevaluate_stock s l c)

theorem xoffReevaluateClass_atHigh (s : State) (c : ClassId) : (s.xoffReevaluateClass c).atHigh = s.atHigh :=
  atHigh_congr (by rw [xoffReevaluateClass_frame])
    (foldl_stock (op := fun u l => u.xoffReevaluate l c) (fun u l => xoffReevaluate_stock u l c) allLinks s)

/-- Evaluations that leave what they judge by move flags to the same values. -/
theorem flagged_foldl {α : Type} {op : State → α → State} (h : ∀ t a, Flagged t.atHigh t (op t a))
    (hk : ∀ t a, (op t a).atHigh = t.atHigh) (as : List α) (s : State) : Flagged s.atHigh s (as.foldl op s) := by
  induction as generalizing s with
  | nil => exact .refl s
  | cons a rest ih =>
    have later := ih (op s a)
    rw [hk] at later
    exact (h s a).trans later

theorem flagged_xoffReevaluateClass (s : State) (c : ClassId) : Flagged s.atHigh s (s.xoffReevaluateClass c) := by
  unfold State.xoffReevaluateClass
  exact flagged_foldl (op := fun u l => u.xoffReevaluate l c) (fun u l => flagged_xoffReevaluate u l c)
    (fun u l => xoffReevaluate_atHigh u l c) allLinks s

/-- R107, R120: each flag that an evaluation anew moves is one change notice. -/
theorem flagged_foldl_xoffReevaluateClass (cs : List ClassId) (s : State) :
    Flagged s.atHigh s (cs.foldl State.xoffReevaluateClass s) :=
  flagged_foldl (op := State.xoffReevaluateClass) flagged_xoffReevaluateClass xoffReevaluateClass_atHigh cs s

/-- Change notices are the same from a state that agrees in all that they read. -/
theorem Noticed.flow_and_ports (h : Noticed n s t) (k : NoticeAlike s u) :
    t.flow = (State.changeNotice^[n] u).flow ∧ ∀ m, t.port m = { s.port m with
      queues := { (s.port m).queues with lists := (t.port m).queues.lists, xoff := (t.port m).queues.xoff }
      flowDue := ((State.changeNotice^[n] u).port m).flowDue } := by
  obtain ⟨flow, -, -, due⟩ := k.iterate n
  exact ⟨by rw [flow, h.flow], fun m => by rw [due]; exact h.port m⟩

/-! ### A boot failure (R192, R197) -/

/-- The element at a boot failure, every change of pass two withdrawn and no flag yet evaluated. -/
def State.bootFailed (s : State) (cause : BootCause) : State :=
  ((s.latch .bootFail).modBoot fun b =>
    { b with cause := cause, failInApply := b.state == .applying, state := .doneDefault, image := [], bus := .idle }).withdrawn

theorem bootFailed_port (s : State) (cause : BootCause) (m : LinkId) : (s.bootFailed cause).port m = (s.port m).withdraw :=
  withdrawn_port ..

/-- R107, R108: the flags evaluated at a boot failure. -/
def State.bootEvaluated (s : State) (cause : BootCause) : State :=
  (allClasses.foldl State.xoffReevaluateClass (s.bootFailed cause)).evalCongestion

theorem bootEvaluated_frame (s : State) (cause : BootCause) : s.bootEvaluated cause =
    { s.bootFailed cause with
      ports := (s.bootEvaluated cause).ports
      flow := (s.bootEvaluated cause).flow
      notice := (s.bootEvaluated cause).notice
      buffer := { s.buffer with congested := (s.bootEvaluated cause).buffer.congested } } := by
  unfold State.bootEvaluated
  rw [evalCongestion_frame, foldl_xoffReevaluateClass_frame]
  rfl

theorem evaluated_bootEvaluated (s : State) (cause : BootCause) : Evaluated (s.bootFailed cause) (s.bootEvaluated cause) :=
  (flagged_foldl_xoffReevaluateClass allClasses (s.bootFailed cause)).evalCongestion
    (by rw [foldl_xoffReevaluateClass_frame]) (by rw [foldl_xoffReevaluateClass_frame])

/-- R192, R197: every link enters BLANK, by the BLANK_TIME of the default configuration. -/
theorem bootFailure_eq (s : State) (cause : BootCause) :
    s.bootFailure cause = (s.bootEvaluated cause).mapPorts (Port.toBlank 256) := by
  have blankTime : paramValue Params.reset .blankTime = 3 := by decide
  have duration : (s.bootEvaluated cause).blankDuration = 256 := by
    rw [State.blankDuration, State.param, bootEvaluated_frame, show (s.bootFailed cause).agent.params = Params.reset from rfl,
      blankTime]
  have enabled : s.bootFailure cause = (s.bootEvaluated cause).enableAll := rfl
  exact enabled.trans (congrArg (fun d => (s.bootEvaluated cause).mapPorts (Port.toBlank d)) duration)

theorem bootFailure_frame (s : State) (cause : BootCause) : s.bootFailure cause =
    { s.bootFailed cause with
      ports := (s.bootFailure cause).ports
      flow := (s.bootEvaluated cause).flow
      notice := (s.bootEvaluated cause).notice
      buffer := { s.buffer with congested := (s.bootEvaluated cause).buffer.congested } } := by
  have ports : (s.bootFailure cause).ports = (s.bootEvaluated cause).ports.map (Port.toBlank 256) := by
    rw [bootFailure_eq, State.mapPorts]
  rw [ports, bootFailure_eq, State.mapPorts]
  conv_lhs => rw [bootEvaluated_frame]

theorem bootFailure_port (s : State) (cause : BootCause) (m : LinkId) :
    (s.bootFailure cause).port m = ((s.bootEvaluated cause).port m).toBlank 256 := by
  rw [bootFailure_eq, port_mapPorts]

theorem toBlank_queues (p : Port) (k : Nat) : (p.toBlank k).queues = p.queues := rfl

/-- R108: the global congestion flag against the default thresholds. -/
theorem bootEvaluated_congested (s : State) (cause : BootCause) : (s.bootEvaluated cause).buffer.congested =
    if s.buffer.free < 256 then true else if 512 ≤ s.buffer.free then false else s.buffer.congested := by
  rw [State.bootEvaluated, evalCongestion_congested, foldl_xoffReevaluateClass_frame]
  rfl

/-- R107: the XOFF flags against the default thresholds. -/
theorem bootEvaluated_xoff (s : State) (cause : BootCause) (m : LinkId) (d : ClassId) :
    ((s.bootEvaluated cause).port m).queues.xoff[d] =
      if 192 ≤ (s.port m).queues.lists[d].length then true
      else if (s.port m).queues.lists[d].length ≤ 96 then false else (s.port m).queues.xoff[d] := by
  have high : ∀ c, paramValue Params.reset (.xoffHi c) = 192 := by decide
  have lower : ∀ c, paramValue Params.reset (.xoffLo c) = 96 := by decide
  rw [State.bootEvaluated, ((quiet_evalCongestion _).port m).queues, foldl_xoffReevaluateClass_xoff, if_pos (mem_allClasses d),
    State.queueLength, bootFailed_port, show (s.bootFailed cause).agent.params = Params.reset from rfl, newXoff, high, lower]
  rfl

theorem bootEvaluated_lists (s : State) (cause : BootCause) (m : LinkId) :
    ((s.bootEvaluated cause).port m).queues.lists = (s.port m).queues.lists := by
  rw [State.bootEvaluated, ((quiet_evalCongestion _).port m).queues, ((quiet_foldl_xoffReevaluateClass _ _).port m).queues,
    port_mapPorts, (xoffMoved_reevaluate ..).lists, bootFailed_port]
  rfl

/-- A change notice reads nothing that the withdrawal of pass two has moved but the parameters. -/
theorem noticeAlike_bootFailed (s : State) (cause : BootCause) :
    NoticeAlike (s.bootFailed cause) { s with agent := { s.agent with params := Params.reset } } where
  flow := rfl
  gap := rfl
  state m := by rw [bootFailed_port]; rfl
  due m := by rw [bootFailed_port]; rfl

/-- R181, R183, R184, R197: the notice unit after a boot failure. -/
theorem bootFailure_notice (s : State) (cause : BootCause) (v : State)
    (hv : v = { s.latch .bootFail with
      notice := { (s.latch .bootFail).notice with elementMasks := 0, linkMasks := 0 } }) :
    (s.bootFailure cause).notice =
      (if s.buffer.congested = false ∧ (s.bootFailure cause).buffer.congested = true then v.latch .globalCongestion
        else v).notice := by
  have alike : (s.bootFailed cause).notice = v.notice := by rw [hv]; rfl
  have before : (s.bootFailed cause).buffer.congested = s.buffer.congested := rfl
  have notice : (s.bootFailure cause).notice = (s.bootEvaluated cause).notice := by rw [bootFailure_frame]
  have after : (s.bootFailure cause).buffer.congested = (s.bootEvaluated cause).buffer.congested := by rw [bootFailure_frame]
  rw [notice, (evaluated_bootEvaluated s cause).notice, before, after]
  exact ite_latch_notice_congr alike Iff.rfl _

/-- R106, R197: the flags that change are those that differ from before the withdrawal. -/
theorem bootEvaluated_flagChanges (s : State) (cause : BootCause) :
    (s.bootFailed cause).flagChanges (s.bootEvaluated cause) = s.flagChanges (s.bootFailure cause) := by
  have before (m : LinkId) : ((s.bootFailed cause).port m).queues = (s.port m).queues := by rw [bootFailed_port]; rfl
  have after (m : LinkId) : ((s.bootFailure cause).port m).queues = ((s.bootEvaluated cause).port m).queues := by
    rw [bootFailure_port, toBlank_queues]
  simp only [State.flagChanges, before, after]

/-- R120, R197: the flow unit and the links after a boot failure. -/
theorem bootFailure_told (s : State) (cause : BootCause) {n : Nat}
    (hn : n = s.flagChanges (s.bootFailure cause) +
      if (s.bootFailure cause).buffer.congested = s.buffer.congested then 0 else 1) :
    Noticed n (s.bootFailed cause) (s.bootEvaluated cause) := by
  have congested : (s.bootFailure cause).buffer.congested = (s.bootEvaluated cause).buffer.congested := by
    rw [bootFailure_frame]
  rw [hn, ← bootEvaluated_flagChanges, congested]
  exact (evaluated_bootEvaluated s cause).noticed

/-- R181, R192: what stands latched after a boot failure. -/
theorem bootFailure_elementFlag (s : State) (cause : BootCause) (f : ElementFlag) :
    (s.bootFailure cause).elementFlag f =
      (decide ((s.buffer.congested = false ∧ (s.bootFailure cause).buffer.congested = true) ∧ f = .globalCongestion) ||
        (s.latch .bootFail).elementFlag f) := by
  have notice := bootFailure_notice s cause _ rfl
  rw [State.elementFlag, notice]
  exact elementFlag_ite_latch ..

/-- Settles O52: the flags are evaluated after the withdrawal, and the links enter BLANK after that. -/
theorem bootFailures : Obligations.BootFailures := by
  unfold Obligations.BootFailures
  refine ⟨⟨rfl, rfl⟩, ?_⟩
  rintro s cause t rfl
  have frame := bootFailure_frame s cause
  have routes := bootFailure_routes (s := s) cause
  have elementFlag := bootFailure_elementFlag s cause
  refine ⟨?_, ?_, fun f hf hg => ?_, ?_, ?_, ?_, ?_, fun l c => ?_, ?_, fun d => ?_, fun g => ?_, ?_, ?_, ?_, ?_, ?_⟩
  · rw [frame]; rfl
  · rw [elementFlag, elementFlag_latch_self, Bool.or_true]
  · rw [elementFlag, decide_eq_false fun h => hg h.2, Bool.false_or, elementFlag_latch_ne s fun e => hf (elementFlag_bit_injective e)]
  · rw [bootFailure_notice s cause _ rfl]
    split <;> rfl
  · rw [bootFailure_notice s cause _ rfl]
    split <;> rfl
  · rintro u v rfl hv
    exact bootFailure_notice s cause v hv
  · rw [frame, bootEvaluated_congested]
  · rw [bootFailure_port, toBlank_queues, bootEvaluated_xoff]
  · rw [frame]; rfl
  · rw [routes]
    exact ⟨routeSet_reset_dest d, routeSet_reset_dest d, routeSet_reset_dest d, Vector.getElem_replicate ..,
      Vector.getElem_replicate ..⟩
  · rw [routes]
    exact ⟨routeSet_reset_group g, routeSet_reset_group g, routeSet_reset_group g, Vector.getElem_replicate ..⟩
  · rw [frame]; rfl
  · rintro n v hn rfl
    rw [← flagChanges_eq] at hn
    obtain ⟨flow, ports⟩ := (bootFailure_told s cause hn).flow_and_ports (noticeAlike_bootFailed s cause)
    refine ⟨by rw [frame, flow], fun l => ?_⟩
    have port := ports l
    rw [bootEvaluated_lists, bootFailed_port] at port
    rw [bootFailure_port, toBlank_queues]
    exact congrArg (Port.toBlank 256) port
  · rw [frame]; rfl
  · rw [frame]; rfl
  · rw [frame]; rfl

end Sys2Proof.Machine
end

section
/-! SUPPORT. A WRITE of CONFIG: the values judged and stored, and the flags and the epoch unit that follow them
(spec/09_management_requests.md, R168, R173, R174; spec/05_cell_buffer_and_output_queues.md, R107, R108;
spec/08_the_epoch.md, R150, R158). -/

namespace Sys2Proof.Machine

variable {s t u v : State} {p q : Params} {f : Fields} {i : Nat} {vs : List Nat} {g : LinkId → ClassId → Bool}

/-! ### The values stored (R173, R174) -/

/-- Every written value is stored at its index as it was judged. -/
theorem storeParams_covered (h : storeParams p i vs = some q) {k : Nat} (hk : k < vs.length) :
    ∃ hj : i + k < 30, (paramKind (i + k)).judge vs[k] = some (q[i + k]).toNat := by
  induction vs generalizing p i k with
  | nil => exact absurd hk (Nat.not_lt_zero k)
  | cons v rest ih =>
    unfold storeParams at h
    split at h
    · exact absurd h.symm (Option.some_ne_none q)
    · rename_i w hw
      split at h <;> rename_i hi
      · cases k with
        | zero =>
          obtain ⟨fits, -⟩ := (paramKind_fits i).judge_again hw
          have stored : q[i] = BitVec.ofNat 16 w :=
            (storeParams_uncovered h ⟨i, hi⟩ (.inl (Nat.lt_succ_self i))).trans (Vector.getElem_set_self ..)
          refine ⟨hi, hw.trans (congrArg some ?_)⟩
          rw [show q[i + 0] = BitVec.ofNat 16 w from stored, BitVec.toNat_ofNat, Nat.mod_eq_of_lt fits]
        | succ k =>
          have later := ih h (Nat.lt_of_succ_lt_succ hk)
          simpa only [Nat.add_right_comm i 1 k, Nat.add_assoc, List.getElem_cons_succ] using later
      · exact absurd h.symm (Option.some_ne_none q)

theorem storeParams_eq_none {k : Nat} (hk : k < vs.length) (h : (paramKind (i + k)).judge vs[k] = none) :
    storeParams p i vs = none := by
  rw [Option.eq_none_iff_forall_ne_some]
  intro q hq
  obtain ⟨_, judged⟩ := storeParams_covered hq hk
  exact absurd (h.symm.trans judged).symm (Option.some_ne_none _)

theorem exists_storeParams (hi : i + vs.length ≤ 30)
    (h : ∀ (k : Nat) (hk : k < vs.length), (paramKind (i + k)).judge vs[k] ≠ none) : ∃ q, storeParams p i vs = some q := by
  induction vs generalizing p i with
  | nil => exact ⟨p, rfl⟩
  | cons v rest ih =>
    rw [List.length_cons] at hi
    obtain ⟨w, hw⟩ := Option.ne_none_iff_exists'.1 (h 0 (Nat.zero_lt_succ _))
    have here : i < 30 := by omega
    have later (k : Nat) (hk : k < rest.length) : (paramKind (i + 1 + k)).judge rest[k] ≠ none := by
      have judged := h (k + 1) (Nat.succ_lt_succ hk)
      rwa [List.getElem_cons_succ, Nat.add_comm k 1, ← Nat.add_assoc] at judged
    obtain ⟨q, hq⟩ := ih (p := p.set i (BitVec.ofNat 16 w)) (by omega) later
    exact ⟨q, by simp only [storeParams, show (paramKind i).judge v = some w from hw, dif_pos here, hq]⟩

theorem configValues_getElem (f : Fields) {k : Nat} (hk : k < f.configValues.length) :
    f.configValues[k] = (halfAt f.data (2 * k)).toNat := by simp [Fields.configValues]

theorem storeParams_config_none {k : Nat} (hk : k < f.count.toNat)
    (h : (paramKind (f.index.toNat + k)).judge (halfAt f.data (2 * k)).toNat = none) :
    storeParams p f.index.toNat f.configValues = none := by
  have hk' : k < f.configValues.length := by rwa [configValues_length]
  exact storeParams_eq_none hk' (by rwa [configValues_getElem])

/-- The parameters as the statement of the write gives them are the parameters as they are stored. -/
theorem storeParams_config_eq (hr : f.index.toNat + f.count.toNat ≤ 30)
    (hin : ∀ (i : Fin 30) (k w : Nat), i.val = f.index.toNat + k → k < f.count.toNat →
      (paramKind i.val).judge (halfAt f.data (2 * k)).toNat = some w → q[i].toNat = w)
    (hout : ∀ i : Fin 30, i.val < f.index.toNat ∨ f.index.toNat + f.count.toNat ≤ i.val → q[i] = p[i])
    (hv : ∀ k, k < f.count.toNat → (paramKind (f.index.toNat + k)).judge (halfAt f.data (2 * k)).toNat ≠ none) :
    storeParams p f.index.toNat f.configValues = some q := by
  have length := configValues_length f
  obtain ⟨q', stored⟩ := exists_storeParams (p := p) (by rwa [length]) fun k hk => by
    rw [configValues_getElem]; exact hv k (by rwa [length] at hk)
  have same : q' = q := by
    refine Vector.ext fun j hj => ?_
    by_cases covered : f.index.toNat ≤ j ∧ j < f.index.toNat + f.count.toNat
    · obtain ⟨k, rfl⟩ := Nat.exists_eq_add_of_le covered.1
      have hk : k < f.count.toNat := by omega
      obtain ⟨_, judged⟩ := storeParams_covered stored (k := k) (by rwa [length])
      rw [configValues_getElem] at judged
      exact BitVec.eq_of_toNat_eq (hin ⟨_, hj⟩ k _ rfl hk judged).symm
    · have outside : j < f.index.toNat ∨ f.index.toNat + f.count.toNat ≤ j := by omega
      exact (storeParams_uncovered stored ⟨j, hj⟩ (by rwa [length])).trans (hout ⟨j, hj⟩ outside).symm
  rw [stored, same]

/-! ### The judgement (R168, R169, R173, R174) -/

theorem kind_writeConfig (hc : f.command = 0x02) (ho : f.object = 0x01) : f.kind = .writeConfig := by
  rw [Fields.kind, hc, ho]; rfl

theorem covers_iff {k : Param} : f.covers k = true ↔
    f.index.toNat ≤ k.index.val ∧ k.index.val < f.index.toNat + f.count.toNat := by simp [Fields.covers]

theorem judgeWriteConfig_refused {status : Status} (h : f.shapeRefusal .config = some status) :
    judgeWriteConfig f s = refuse s status := by
  simp only [judgeWriteConfig, h]

section
variable (hs : f.shapeRefusal .config = none)
include hs

theorem judgeWriteConfig_phase (hp : s.agent.phase = .run) (hi : f.index.toNat < 27) :
    judgeWriteConfig f s = refuse s .phase := by
  simp only [judgeWriteConfig, hs, hp, hi, and_self, if_true]

theorem judgeWriteConfig_open (hp : s.agent.phase = .config ∨ 27 ≤ f.index.toNat) :
    judgeWriteConfig f s = (storeParams s.agent.params f.index.toNat f.configValues).elim (refuse s .badValue)
      fun p => if pairingsHold p then taken (s.applyConfig f p) else refuse s .badValue := by
  have free : ¬(s.agent.phase = .run ∧ f.index.toNat < 27) := by
    rintro ⟨run, fixed⟩
    rcases hp with config | above
    · rw [run] at config; exact Phase.noConfusion config
    · exact absurd fixed (Nat.not_lt.2 above)
  simp only [judgeWriteConfig, hs, if_neg free]
  cases storeParams s.agent.params f.index.toNat f.configValues <;> rfl

end

/-! ### The XOFF flags (R107) -/

/-- R107: the classes whose thresholds a WRITE of CONFIG covers. -/
def Fields.xoffClasses (f : Fields) : List ClassId := allClasses.filter fun c => f.covers (.xoffHi c) || f.covers (.xoffLo c)

theorem mem_xoffClasses {c : ClassId} : c ∈ f.xoffClasses ↔ f.covers (.xoffHi c) = true ∨ f.covers (.xoffLo c) = true := by
  simp [Fields.xoffClasses, mem_allClasses]

theorem xoffWritten_frame (s : State) (f : Fields) :
    s.xoffWritten f = { s with ports := (s.xoffWritten f).ports, flow := (s.xoffWritten f).flow } := by
  rw [xoffWritten_eq]
  exact foldl_xoffReevaluateClass_frame ..

theorem flagged_xoffWritten (s : State) (f : Fields) : Flagged s.atHigh s (s.xoffWritten f) := by
  rw [xoffWritten_eq]
  exact flagged_foldl_xoffReevaluateClass ..

/-! ### The global congestion flag (R108) -/

theorem congestionWritten_frame (s : State) (f : Fields) : s.congestionWritten f =
    { s with ports := (s.congestionWritten f).ports, flow := (s.congestionWritten f).flow,
             notice := (s.congestionWritten f).notice,
             buffer := { s.buffer with congested := (s.congestionWritten f).buffer.congested } } := by
  unfold State.congestionWritten
  split
  · exact evalCongestion_frame s
  · rfl

theorem congestionWritten_congested (s : State) (f : Fields) : (s.congestionWritten f).buffer.congested =
    if f.covers .fPanic = true ∨ f.covers .fResume = true then
      if s.buffer.free < s.param .fPanic then true
      else if s.param .fResume ≤ s.buffer.free then false else s.buffer.congested
    else s.buffer.congested := by
  unfold State.congestionWritten
  simp only [Bool.or_eq_true]
  rw [apply_ite State.buffer, apply_ite CellBuffer.congested, evalCongestion_congested]

theorem Flagged.congestionWritten (h : Flagged g s v) (hc : v.buffer.congested = s.buffer.congested)
    (hn : v.notice = s.notice) (f : Fields) : Evaluated s (v.congestionWritten f) := by
  unfold State.congestionWritten
  split
  · exact h.evalCongestion hc hn
  · exact h.evaluated hc hn

/-! ### The epoch unit (R150, R158) -/

theorem epochWritten_frame (s : State) (f : Fields) : s.epochWritten f = { s with epoch := (s.epochWritten f).epoch } := by
  unfold State.epochWritten
  dsimp only
  split_ifs <;> rfl

theorem epochWritten_source (h : f.covers .epochSource = true) : (s.epochWritten f).epoch =
    s.epoch.sourceWritten (s.param .epochSource) := by
  unfold State.epochWritten
  rw [if_pos h]
  dsimp only
  split
  · show (s.epoch.sourceWritten (s.param .epochSource)).syncLinkWritten (s.param .epochSource) = _
    unfold EpochUnit.syncLinkWritten
    split <;> rename_i two
    · rw [two]; rfl
    · rfl
  · rfl

theorem epochWritten_other (h : f.covers .epochSource = false) : (s.epochWritten f).epoch =
    if f.covers .syncLink = true ∧ s.param .epochSource = 2 then { s.epoch with sync := .acquiring, missRun := 0 }
    else s.epoch := by
  unfold State.epochWritten
  have unwritten : ¬f.covers .epochSource = true := by simp [h]
  dsimp only
  rw [if_neg unwritten]
  by_cases covered : f.covers .syncLink = true
  · rw [if_pos covered]
    by_cases two : s.param .epochSource = 2
    · rw [if_pos ⟨covered, two⟩]
      exact if_pos two
    · rw [if_neg fun h => two h.2]
      exact if_neg two
  · rw [if_neg covered, if_neg fun h => covered h.1]

/-! ### A taken WRITE of CONFIG (R107, R108, R150, R158, R173) -/

/-- The element with the parameters stored, before anything follows from them. -/
def State.withParams (s : State) (p : Params) : State := { s with agent := { s.agent with params := p } }

/-- The element when the flags have followed the new parameters, and the epoch unit has not. -/
def State.flagsFollowed (s : State) (f : Fields) (p : Params) : State := ((s.withParams p).xoffWritten f).congestionWritten f

theorem applyConfig_eq (s : State) (f : Fields) (p : Params) : s.applyConfig f p = (s.flagsFollowed f p).epochWritten f := rfl

theorem flagsFollowed_frame (s : State) (f : Fields) (p : Params) : s.flagsFollowed f p =
    { s.withParams p with
      ports := (s.flagsFollowed f p).ports
      flow := (s.flagsFollowed f p).flow
      notice := (s.flagsFollowed f p).notice
      buffer := { s.buffer with congested := (s.flagsFollowed f p).buffer.congested } } := by
  unfold State.flagsFollowed
  rw [congestionWritten_frame, xoffWritten_frame]
  rfl

theorem applyConfig_frame (s : State) (f : Fields) (p : Params) : s.applyConfig f p =
    { s.flagsFollowed f p with epoch := (s.applyConfig f p).epoch } := by
  rw [applyConfig_eq, epochWritten_frame]

theorem evaluated_flagsFollowed (s : State) (f : Fields) (p : Params) : Evaluated (s.withParams p) (s.flagsFollowed f p) :=
  (flagged_xoffWritten (s.withParams p) f).congestionWritten (by rw [xoffWritten_frame]) (by rw [xoffWritten_frame]) f

theorem flagsFollowed_congested (s : State) (f : Fields) (p : Params) : (s.flagsFollowed f p).buffer.congested =
    if f.covers .fPanic = true ∨ f.covers .fResume = true then
      if s.buffer.free < paramValue p .fPanic then true
      else if paramValue p .fResume ≤ s.buffer.free then false else s.buffer.congested
    else s.buffer.congested := by
  rw [State.flagsFollowed, congestionWritten_congested, xoffWritten_frame]
  rfl

theorem flagsFollowed_queues (s : State) (f : Fields) (p : Params) (m : LinkId) :
    ((s.flagsFollowed f p).port m).queues = (((s.withParams p).xoffWritten f).port m).queues :=
  ((quiet_congestionWritten _ f).port m).queues

theorem flagsFollowed_lists (s : State) (f : Fields) (p : Params) (m : LinkId) :
    ((s.flagsFollowed f p).port m).queues.lists = (s.port m).queues.lists := by
  rw [flagsFollowed_queues, xoffWritten_eq, ((quiet_foldl_xoffReevaluateClass _ _).port m).queues, port_mapPorts,
    (xoffMoved_reevaluate ..).lists]
  rfl

theorem flagsFollowed_xoff (s : State) (f : Fields) (p : Params) (m : LinkId) (d : ClassId) :
    ((s.flagsFollowed f p).port m).queues.xoff[d] =
      if f.covers (.xoffHi d) = true ∨ f.covers (.xoffLo d) = true then
        newXoff p d (s.queueLength m d) (s.port m).queues.xoff[d]
      else (s.port m).queues.xoff[d] := by
  rw [flagsFollowed_queues, xoffWritten_eq, foldl_xoffReevaluateClass_xoff]
  exact if_congr mem_xoffClasses rfl rfl

theorem flagsFollowed_param (s : State) (f : Fields) (p : Params) (k : Param) :
    (s.flagsFollowed f p).param k = paramValue p k := by
  rw [flagsFollowed_frame]; rfl

theorem applyConfig_source (s : State) (p : Params) (h : f.covers .epochSource = true) :
    (s.applyConfig f p).epoch = s.epoch.sourceWritten (paramValue p .epochSource) := by
  rw [applyConfig_eq, epochWritten_source h, flagsFollowed_param, flagsFollowed_frame]
  rfl

theorem applyConfig_sourceKept (s : State) (p : Params) (h : f.covers .epochSource = false) :
    (s.applyConfig f p).epoch =
      if f.covers .syncLink = true ∧ paramValue p .epochSource = 2 then { s.epoch with sync := .acquiring, missRun := 0 }
      else s.epoch := by
  rw [applyConfig_eq, epochWritten_other h, flagsFollowed_param, flagsFollowed_frame]
  rfl

theorem evaluated_applyConfig (s : State) (f : Fields) (p : Params) : Evaluated (s.withParams p) (s.applyConfig f p) := by
  obtain ⟨noticed, notice⟩ := evaluated_flagsFollowed s f p
  rw [applyConfig_frame]
  exact ⟨⟨noticed.params, noticed.flow, noticed.port⟩, notice⟩

theorem applyConfig_port (s : State) (f : Fields) (p : Params) (m : LinkId) :
    (s.applyConfig f p).port m = (s.flagsFollowed f p).port m := by
  rw [applyConfig_frame]; rfl

theorem applyConfig_xoff (s : State) (f : Fields) (p : Params) (m : LinkId) (d : ClassId) :
    ((s.applyConfig f p).port m).queues.xoff[d] =
      if f.covers (.xoffHi d) = true ∨ f.covers (.xoffLo d) = true then
        newXoff p d (s.queueLength m d) (s.port m).queues.xoff[d]
      else (s.port m).queues.xoff[d] := by
  rw [applyConfig_port, flagsFollowed_xoff]

theorem applyConfig_buffer (s : State) (f : Fields) (p : Params) : (s.applyConfig f p).buffer =
    { s.buffer with
      congested :=
        if f.covers .fPanic = true ∨ f.covers .fResume = true then
          if s.buffer.free < paramValue p .fPanic then true
          else if paramValue p .fResume ≤ s.buffer.free then false else s.buffer.congested
        else s.buffer.congested } := by
  rw [← flagsFollowed_congested, applyConfig_frame]
  conv_lhs => rw [flagsFollowed_frame]

theorem applyConfig_notice (s : State) (f : Fields) (p : Params) : (s.applyConfig f p).notice =
    (if s.buffer.congested = false ∧ (s.applyConfig f p).buffer.congested = true
      then s.latch .globalCongestion else s).notice := by
  have alike : (s.withParams p).notice = s.notice := rfl
  rw [(evaluated_applyConfig s f p).notice]
  exact ite_latch_notice_congr alike Iff.rfl _

/-- R120: the flow unit and the links after the write, whatever request has been taken. -/
theorem applyConfig_told {rest : List Request} {n : Nat} (ht : t = (s.dropRequest rest).applyConfig f p)
    (hn : n = s.flagChanges t + if t.buffer.congested = s.buffer.congested then 0 else 1)
    (hv : v = State.changeNotice^[n] (s.withParams p)) :
    t.flow = v.flow ∧ ∀ m, t.port m = { s.port m with
      queues := { (s.port m).queues with xoff := (t.port m).queues.xoff }, flowDue := (v.port m).flowDue } := by
  have noticed : Noticed n ((s.dropRequest rest).withParams p) t := by
    rw [hn, ht]
    exact (evaluated_applyConfig (s.dropRequest rest) f p).noticed
  have alike : NoticeAlike ((s.dropRequest rest).withParams p) (s.withParams p) :=
    ⟨rfl, rfl, fun _ => rfl, fun _ => rfl⟩
  obtain ⟨flow, ports⟩ := noticed.flow_and_ports alike
  have lists (m : LinkId) : (t.port m).queues.lists = (s.port m).queues.lists := by
    rw [ht, applyConfig_port, flagsFollowed_lists]; rfl
  subst hv
  refine ⟨flow, fun m => ?_⟩
  have port := ports m
  rw [lists] at port
  exact port

/-- Settles O42: the judgement case by case, and after a taken write each block by its own lemma. -/
theorem configWrites : Obligations.ConfigWrites := by
  refine ⟨by decide, by decide, fun v => ⟨fun _ _ => rfl, fun _ => rfl, rfl⟩, fun _ _ => rfl, fun _ _ => rfl,
    fun _ _ => covers_iff, fun s u r rest f hr hq hf hu hc ho => ?_⟩
  subst hf hu
  have served : ∀ v, judgeWriteConfig r.fields (s.dropRequest rest) = v →
      exec .writeConfig s = .next (v.state.respond r v.status v.data) := fun v hv =>
    (act_run _ hr : execWriteConfig s = _).trans (congrArg _ (serve_head_eq hq (kind_writeConfig hc ho) hv))
  refine ⟨fun status h => served (refuse _ _) (judgeWriteConfig_refused h), fun hs =>
    ⟨fun run fixed => served (refuse _ _) (judgeWriteConfig_phase (s := s.dropRequest rest) hs run fixed), fun hopen => ?_⟩⟩
  have judged := judgeWriteConfig_open (s := s.dropRequest rest) hs hopen
  obtain ⟨-, -, range⟩ := of_shapeRefusal_none hs
  refine ⟨fun ⟨k, hk, impossible⟩ => ?_, fun p hin hout possible => ?_⟩
  · rw [storeParams_config_none hk impossible] at judged
    exact served (refuse _ _) judged
  · rw [storeParams_config_eq (p := (s.dropRequest rest).agent.params) range hin hout possible, Option.elim_some] at judged
    refine ⟨fun broken => ?_, fun xoff panic => ?_⟩
    · rw [if_neg (pairingsHold_iff.not.2 broken)] at judged
      exact served (refuse _ _) judged
    · rw [if_pos (pairingsHold_iff.2 ⟨xoff, panic⟩)] at judged
      generalize ht : (s.dropRequest rest).applyConfig r.fields p = t at judged
      have frame := applyConfig_frame (s.dropRequest rest) r.fields p
      have buffer := applyConfig_buffer (s.dropRequest rest) r.fields p
      have notice := applyConfig_notice (s.dropRequest rest) r.fields p
      have flag := applyConfig_xoff (s.dropRequest rest) r.fields p
      rw [ht, flagsFollowed_frame] at frame
      rw [ht] at buffer notice
      simp only [ht] at flag
      refine ⟨t, served (taken _) judged, ?_, fun c hc l => (flag l c).trans (if_pos hc),
        fun c hhi hlo l => (flag l c).trans (if_neg (by simp [hhi, hlo])), fun hc => buffer.trans ?_,
        fun hp hr => buffer.trans ?_,
        notice.trans (ite_latch_notice_congr (s := s) (t := s.dropRequest rest) rfl Iff.rfl _), fun n v hn hv => ?_,
        fun hsrc => ?_, fun hsrc hl h2 => ?_, fun hsrc h => ?_, ?_⟩
      · rw [frame]; rfl
      · rw [if_pos hc]; rfl
      · rw [if_neg (by simp [hp, hr])]; rfl
      · rw [← flagChanges_eq] at hn
        exact applyConfig_told ht.symm hn hv
      · rw [← ht, applyConfig_source _ _ hsrc]; rfl
      · rw [← ht, applyConfig_sourceKept _ _ hsrc, if_pos ⟨hl, h2⟩]; rfl
      · have kept : ¬(r.fields.covers .syncLink = true ∧ paramValue p .epochSource = 2) := by
          rcases h with h | h <;> simp [h]
        rw [← ht, applyConfig_sourceKept _ _ hsrc, if_neg kept]; rfl
      · rw [frame]
        exact ⟨rfl, rfl, rfl, rfl⟩

end Sys2Proof.Machine
end

section
/-! SUPPORT. The flow unit's change notices, its gap timer and the refresh (spec/06_congestion_signalling_and_credits.md, R120, R121,
R123). -/

namespace Sys2Proof.Machine

variable {s : State} {n : Nat}

/-- R120, R123: the links that FLOW-due is set on, written out. -/
theorem markFlowDue_written (s : State) : s.markFlowDue = { s with
    ports := s.ports.map fun p => { p with flowDue := p.flowDue || (p.unit.state == .up || p.unit.state == .draining) } } := by
  have inService (x : LinkState) : x.inService = (x == .up || x == .draining) := by cases x <;> rfl
  have mark : Port.markFlowDue =
      fun p => { p with flowDue := p.flowDue || (p.unit.state == .up || p.unit.state == .draining) } :=
    funext fun p => by rw [markFlowDue_eq, inService]
  rw [State.markFlowDue, mark]
  rfl

/-! ### Change notices (R120) -/

theorem changeNotice_idle (h : s.flow.gapTimer = none) : s.changeNotice = s.markFlowDue.startGap := by
  simp only [State.changeNotice, h]

theorem changeNotice_running (h : s.flow.gapTimer = some n) :
    s.changeNotice = { s with flow := { s.flow with mapPending := true } } := by
  simp only [State.changeNotice, h]

/-! ### The expiry of the gap timer (R121) -/

theorem exec_gapTimerExpiry (hr : s.inReset = false) : exec .gapTimerExpiry s = .next s.gapExpiry := act_run _ hr

theorem gapExpiry_pending (h : s.flow.gapTimer = some n) (hp : s.flow.mapPending = true) :
    s.gapExpiry = ({ s with flow := { s.flow with mapPending := false } } : State).markFlowDue.startGap := by
  simp only [State.gapExpiry, h, hp, if_true]

theorem gapExpiry_clear (h : s.flow.gapTimer = some n) (hp : s.flow.mapPending = false) :
    s.gapExpiry = { s with flow := { s.flow with gapTimer := none } } := by
  simp only [State.gapExpiry, h, hp, Bool.false_eq_true, if_false]

/-! ### The refresh (R123) -/

theorem exec_refresh (hr : s.inReset = false) : exec .refresh s = .next s.refreshFlow := act_run _ hr

theorem refreshFlow_delivered (h : s.flow.boundaries = n + 1) :
    s.refreshFlow = ({ s with flow := { s.flow with boundaries := n } } : State).markFlowDue := by
  simp only [State.refreshFlow, h]

/-- Settles O26: a change notice and the expiry by the gap timer and map-change-pending, the refresh by the boundary it takes. -/
theorem changeNoticesGapAndRefresh : Obligations.ChangeNoticesGapAndRefresh := by
  refine ⟨⟨fun s h => ?_, fun s n h => changeNotice_running h, fun s n hr h hp => ?_, fun s n hr h hp => ?_⟩,
    fun s n hr h => ?_⟩
  · rw [changeNotice_idle h, markFlowDue_written]; rfl
  · rw [exec_gapTimerExpiry hr, gapExpiry_pending h hp, markFlowDue_written]; rfl
  · rw [exec_gapTimerExpiry hr, gapExpiry_clear h hp]
  · rw [exec_refresh hr, refreshFlow_delivered h, markFlowDue_written]

end Sys2Proof.Machine
end

section
/-! SUPPORT. The available credit of a link (spec/06_congestion_signalling_and_credits.md, R126): when it is within CREDIT_MAX, and
what a grant, a send and a zeroing of the counts make of it (R127, R129, R130). -/

namespace Sys2Proof.Machine

variable {s t u : State} {l : LinkId} {c : ClassId} {p : Port} {g : Byte}

/-! ### One link -/

/-- R126: the available credit of each class of a link is within its CREDIT_MAX. -/
def Port.CreditBounded (p : Port) : Prop := ∀ c, (p.credit.available c).toNat ≤ p.map.creditMax.toNat

theorem creditBounded_iff : s.CreditBounded ↔ ∀ l, (s.port l).CreditBounded := Iff.rfl

/-- R130: a link whose counts are 0, whatever its CREDIT_MAX. -/
theorem creditBounded_zero (h : p.credit = LinkCredit.zero) : p.CreditBounded := by
  have none : ∀ c, (LinkCredit.zero.available c).toNat = 0 := by decide
  intro c
  rw [h, none]
  exact Nat.zero_le _

/-- The granted count of one class replaced. -/
def Port.grant (p : Port) (c : ClassId) (g : Byte) : Port :=
  { p with credit := { p.credit with granted := p.credit.granted.set c g } }

theorem available_grant (p : Port) (c d : ClassId) (g : Byte) :
    (p.grant c g).credit.available d = if d = c then g - p.credit.sent[c] else p.credit.available d := by
  rw [LinkCredit.available, Port.grant, getElem_set_fin]
  split <;> rename_i h
  · rw [h]
  · rfl

/-- R127: an accepted grant leaves no more credit than CREDIT_MAX. -/
theorem Port.CreditBounded.grant (h : p.CreditBounded) (ha : p.acceptsGrant c g = true) : (p.grant c g).CreditBounded := by
  intro d
  rw [available_grant]
  split
  · exact of_decide_eq_true ha
  · exact h d

theorem available_countSent (p : Port) (c d : ClassId) :
    (p.countSent c).credit.available d = if d = c then p.credit.available c - 1 else p.credit.available d := by
  rw [LinkCredit.available, Port.countSent, getElem_set_fin]
  split <;> rename_i h
  · rw [h, LinkCredit.available]
    bv_omega
  · rfl

/-- R129: the send gate: where there is credit, a send takes 1 of it. -/
theorem available_countSent_toNat (h : 1 ≤ (p.credit.available c).toNat) :
    ((p.countSent c).credit.available c).toNat = (p.credit.available c).toNat - 1 := by
  rw [available_countSent, if_pos rfl]
  exact BitVec.toNat_sub_of_le h

theorem Port.CreditBounded.countSent (h : p.CreditBounded) (ha : 1 ≤ (p.credit.available c).toNat) :
    (p.countSent c).CreditBounded := by
  intro d
  by_cases hd : d = c
  · subst hd
    rw [available_countSent_toNat ha]
    exact (Nat.sub_le ..).trans (h d)
  · rw [available_countSent, if_neg hd]
    exact h d

theorem available_of_eligible (h : p.eligible c = true) : 1 ≤ (p.credit.available c).toNat := by
  simp only [Port.eligible, Bool.and_eq_true, decide_eq_true_iff] at h
  obtain ⟨⟨-, credit⟩, -⟩ := h
  exact credit

/-- R143: the class that the examination selects is eligible. -/
theorem examine_eligible {eligible : ClassId → Bool} {weight : RoundRobin → Nat} {n : Nat} {x : Scheduler} {k : RoundRobin}
    (h : (Scheduler.examine eligible weight n x).2 = some k) : eligible k.toClass = true := by
  induction n generalizing x with
  | zero => exact absurd h.symm (Option.some_ne_none k)
  | succ n ih =>
    unfold Scheduler.examine at h
    split at h <;> rename_i he
    · obtain rfl := Option.some.inj h
      exact he
    · exact ih h

/-! ### Every link -/

/-- What bounds the credit of a link: its counts and its CREDIT_MAX. -/
def State.credits (s : State) (l : LinkId) : LinkCredit × Byte := ((s.port l).credit, (s.port l).map.creditMax)

/-- From `s` to `t` every link keeps its available credit within its CREDIT_MAX. -/
structure CreditKept (s t : State) : Prop where
  port : ∀ l, (s.port l).CreditBounded → (t.port l).CreditBounded

theorem CreditKept.of_eq (h : t.credits = s.credits) : CreditKept s t := by
  refine ⟨fun l hs => ?_⟩
  obtain ⟨credit, most⟩ := Prod.mk.inj (congrFun h l)
  unfold Port.CreditBounded
  rw [credit, most]
  exact hs

theorem CreditKept.refl (s : State) : CreditKept s s := .of_eq rfl

theorem CreditKept.trans (h : CreditKept s t) (k : CreditKept t u) : CreditKept s u := ⟨fun l => k.port l ∘ h.port l⟩

/-- R130: G and S of every link are 0. -/
theorem CreditKept.of_zero (h : ∀ l, (t.port l).credit = LinkCredit.zero) : CreditKept s t :=
  ⟨fun l _ => creditBounded_zero (h l)⟩

theorem creditKept_modPort {f : Port → Port} (h : (s.port l).CreditBounded → (f (s.port l)).CreditBounded) :
    CreditKept s (s.modPort l f) := by
  refine ⟨fun m hm => ?_⟩
  rw [port_modPort]
  split <;> rename_i e
  · exact h (e ▸ hm)
  · exact hm

/-- R130: G and S of one link are set to 0. -/
theorem creditKept_modPort_zero {f : Port → Port} (h : (f (s.port l)).credit = LinkCredit.zero) :
    CreditKept s (s.modPort l f) := creditKept_modPort fun _ => creditBounded_zero h

theorem creditKept_foldl {α : Type} {op : State → α → State} (h : ∀ t a, CreditKept t (op t a)) (as : List α) (s : State) :
    CreditKept s (as.foldl op s) := by
  induction as generalizing s with
  | nil => exact .refl s
  | cons a rest ih => exact (h s a).trans (ih _)

end Sys2Proof.Machine
end

section
/-! SUPPORT. The operations that leave the credits and CREDIT_MAX of every link (spec/06_congestion_signalling_and_credits.md, R126,
R130): those of the buffer and the queues, the flow unit, the commit unit, the epoch unit and the notice unit, and the departures of
the link units. -/

namespace Sys2Proof.Machine

variable (s : State) (l : LinkId) (f : Fields) {t : State} {n : Nat}

/-! ### One link, or every link, changed beside its credits -/

theorem credits_eq (hc : ∀ m, (t.port m).credit = (s.port m).credit) (hm : ∀ m, (t.port m).map = (s.port m).map) :
    t.credits = s.credits := funext fun m => by rw [State.credits, State.credits, hc, hm]

/-- What moves only queues, their flags and FLOW-due leaves the credits. -/
theorem Noticed.credits {s t : State} (h : Noticed n s t) : t.credits = s.credits :=
  credits_eq s (fun m => by rw [h.port]) fun m => by rw [h.port]

@[simp] theorem modPort_credits {g : Port → Port} (hc : (g (s.port l)).credit = (s.port l).credit)
    (hm : (g (s.port l)).map = (s.port l).map) : (s.modPort l g).credits = s.credits := by
  refine funext fun m => ?_
  rw [State.credits, port_modPort]
  split <;> rename_i h
  · rw [hc, hm, h]; rfl
  · rfl

@[simp] theorem mapPorts_credits {g : Port → Port} (hc : ∀ p, (g p).credit = p.credit) (hm : ∀ p, (g p).map = p.map) :
    (s.mapPorts g).credits = s.credits :=
  credits_eq s (fun m => by rw [port_mapPorts, hc]) fun m => by rw [port_mapPorts, hm]

@[simp] theorem modUnit_credits (g : LinkUnit → LinkUnit) : (s.modUnit l g).credits = s.credits := modPort_credits s l rfl rfl

@[simp] theorem countLink_credits (k : LinkCounter) : (s.countLink l k).credits = s.credits := modPort_credits s l rfl rfl

@[simp] theorem hand_credits (x : Option Cell) : (s.hand l x).credits = s.credits := modPort_credits s l rfl rfl

@[simp] theorem placeControl_credits (x : ControlCell) : (s.placeControl l x).credits = s.credits := modPort_credits s l rfl rfl

@[simp] theorem latchLink_credits (x : LinkFlag) : (s.latchLink l x).credits = s.credits := by
  unfold State.latchLink
  dsimp only
  split <;> exact modPort_credits s l (g := fun p => { p with flags := setBitAt p.flags x.bit }) rfl rfl

/-! ### What holds no link -/

@[simp] theorem latch_credits (x : ElementFlag) : (s.latch x).credits = s.credits := rfl

@[simp] theorem countElement_credits (k : ElementCounter) : (s.countElement k).credits = s.credits := rfl

@[simp] theorem modRoutes_credits (g : RouteStore → RouteStore) : (s.modRoutes g).credits = s.credits := rfl

@[simp] theorem modCommit_credits (g : CommitUnit → CommitUnit) : (s.modCommit g).credits = s.credits := rfl

@[simp] theorem modEpoch_credits (g : EpochUnit → EpochUnit) : (s.modEpoch g).credits = s.credits := rfl

@[simp] theorem modBoot_credits (g : BootLoader → BootLoader) : (s.modBoot g).credits = s.credits := rfl

@[simp] theorem dropRequest_credits (rest : List Request) : (s.dropRequest rest).credits = s.credits := rfl

/-- A fold of operations that leave the credits leaves them. -/
theorem foldl_credits {α : Type} {op : State → α → State} (h : ∀ t a, (op t a).credits = t.credits) (as : List α) (s : State) :
    (as.foldl op s).credits = s.credits := by
  induction as generalizing s with
  | nil => rfl
  | cons a rest ih => rw [List.foldl_cons, ih, h]

/-! ### The flow unit (R120, R121, R123) -/

@[simp] theorem markFlowDue_credits : s.markFlowDue.credits = s.credits :=
  mapPorts_credits s markFlowDue_credit markFlowDue_map

@[simp] theorem changeNotice_credits : s.changeNotice.credits = s.credits := (noticed_changeNotice s).credits

theorem gapExpiry_credits : s.gapExpiry.credits = s.credits := by
  unfold State.gapExpiry
  split
  · rfl
  · split
    · exact markFlowDue_credits { s with flow := { s.flow with mapPending := false } }
    · rfl

theorem refreshFlow_credits : s.refreshFlow.credits = s.credits := by
  unfold State.refreshFlow
  split
  · rfl
  · exact markFlowDue_credits _

/-! ### Admissions and removals (R97 to R100, R103) -/

theorem admitCell_credits (c : ClassId) (cell : Cell) (targets : List Target) :
    (s.admitCell c cell targets).credits = s.credits := by
  rw [admitCell_eq, latchExhaustion_frame]
  exact (evaluated_queued s c cell targets).noticed.credits

@[simp] theorem removeHead_credits (c : ClassId) (slot : Nat) (rest : List Nat) :
    (s.removeHead l c slot rest).credits = s.credits := (evaluated_removeHead s l c slot rest).noticed.credits

theorem countDrops_credits (refused : List (Target × Refused)) : (s.countDrops refused).credits = s.credits :=
  foldl_credits (op := fun t (r : Target × Refused) => t.countLink r.1 .mcastCopyDrop) (fun _ _ => countLink_credits ..) refused s

@[simp] theorem admitUnicast_credits (c : ClassId) (cell : Cell) (target : Target) :
    (s.admitUnicast l c cell target).credits = s.credits := by
  unfold State.admitUnicast
  split
  · exact countLink_credits ..
  · exact admitCell_credits ..

@[simp] theorem admitMulticast_credits (c : ClassId) (cell : Cell) (targets : List Target) :
    (s.admitMulticast l c cell targets).credits = s.credits := by
  have wholeLoss (t : State) (refused : List (Target × Refused)) : (t.countWholeLoss l refused).credits = t.credits := by
    unfold State.countWholeLoss
    split <;> simp
  unfold State.admitMulticast
  dsimp only
  split
  · rw [wholeLoss, countDrops_credits]
  · rw [countDrops_credits, admitCell_credits]

theorem flushOne_credits : (s.flushOne l).credits = s.credits := by
  unfold State.flushOne
  split
  · split
    · rfl
    · split <;> simp
  · rfl

/-! ### Links (R32, R33, R37 to R40, R109, R111, R139) -/

@[simp] theorem emptyControl_credits : (s.emptyControl l).credits = s.credits := by
  rw [emptyControl_eq]
  exact modPort_credits s l (g := fun p => { p with sched := { p.sched with control := [] } }) rfl rfl

@[simp] theorem enterUp_credits : (s.enterUp l).credits = s.credits := by simp [State.enterUp]

@[simp] theorem completeFlush_credits : (s.completeFlush l).credits = s.credits := by
  unfold State.completeFlush
  dsimp only
  split <;> simp

@[simp] theorem requestFlush_credits : (s.requestFlush l).credits = s.credits := by
  unfold State.requestFlush
  split
  · rfl
  · dsimp only
    split <;> simp

@[simp] theorem abandonTraffic_credits (was : LinkState) : (s.abandonTraffic l was).credits = s.credits := by
  unfold State.abandonTraffic
  split <;> simp

@[simp] theorem tellLeftUp_credits (was : LinkState) : (s.tellLeftUp was).credits = s.credits := by
  unfold State.tellLeftUp
  split <;> simp

@[simp] theorem disableNow_credits : (s.disableNow l).credits = s.credits := by simp [State.disableNow]

@[simp] theorem tellQueuesEmpty_credits : (s.tellQueuesEmpty l).credits = s.credits := by
  unfold State.tellQueuesEmpty State.endDrain
  split <;> simp

theorem disableDrain_credits : (s.disableDrain l).credits = s.credits := by
  unfold State.disableDrain
  split <;> simp

@[simp] theorem enterFault_credits (cause : FaultCause) : (s.enterFault l cause).credits = s.credits := by
  simp [State.enterFault]

theorem lossExpiry_credits : (s.lossExpiry l).credits = s.credits := by
  unfold State.lossExpiry
  dsimp only
  split <;> simp

theorem linkBoundary_credits : (s.linkBoundary l).credits = s.credits := by
  unfold State.linkBoundary
  split <;> simp

theorem drainAtLimit_credits : (s.drainAtLimit l).credits = s.credits := by
  unfold State.drainAtLimit
  split <;> simp

theorem flushEnd_credits : (s.flushEnd l).credits = s.credits := by
  unfold State.flushEnd
  split <;> simp

/-! ### Reports of the classifier (R20, R28 to R31, R34, R35) -/

@[simp] theorem report_credits (r : Report) : (s.report l r).credits = s.credits := by
  have compared (t : State) : (t.compareRuns l).credits = t.credits := by
    unfold State.compareRuns
    dsimp only
    split_ifs <;> simp
  unfold State.report
  split
  · rw [compared, modUnit_credits]
  case h_2 | h_3 =>
    dsimp only
    split <;> simp
  all_goals rfl

/-! ### Commits, epochs and the pin (R72 to R77, R86, R152 to R158) -/

@[simp] theorem endCommit_credits (r : CommitRequest) (o : CommitOutcome) (e : Half) :
    (s.endCommit r o e).credits = s.credits := by
  rw [endCommit_frame]; rfl

@[simp] theorem fire_credits (r : CommitRequest) (e : Half) : (s.fire r e).credits = s.credits := by simp [State.fire]

theorem walkOne_credits : s.walkOne.credits = s.credits := by
  unfold State.walkOne
  split
  · split <;> rfl
  all_goals rfl

theorem completeWalk_credits : s.completeWalk.credits = s.credits := by
  unfold State.completeWalk
  split
  · simp
  · split_ifs <;> simp
  all_goals rfl

theorem commitBoundary_credits : s.commitBoundary.credits = s.credits := by
  have committed (t : State) (b : Boundary) : (t.commitAtBoundary b).credits = t.credits := by
    unfold State.commitAtBoundary
    split
    · rfl
    all_goals split_ifs <;> simp
  have scrubbed (n : Nat) (t : State) : (State.scrubVisits n t).credits = t.credits := by
    induction n generalizing t with
    | zero => rfl
    | succ n ih => rw [State.scrubVisits, ih, scrubOne_frame]; rfl
  unfold State.commitBoundary
  split
  · rfl
  · rw [scrubbed, committed, modCommit_credits]

@[simp] theorem boundary_credits (carried : Option Half) (sync : SyncState) (missRun : Nat) (lost : Bool) :
    (s.boundary carried sync missRun lost).credits = s.credits := by
  rw [boundary_frame]
  exact mapPorts_credits s (g := fun p => { p with boundaries := p.boundaries + 1 }) (fun _ => rfl) fun _ => rfl

@[simp] theorem externalEpoch_credits (carried : Option Half) (elapsed : Nat) :
    (s.externalEpoch carried elapsed).credits = s.credits := by
  unfold State.externalEpoch
  split
  · rfl
  · simp
  · simp
  all_goals
    dsimp only
    split <;> simp

theorem timerBoundary_credits : s.timerBoundary.credits = s.credits := by
  unfold State.timerBoundary
  split <;> simp

theorem holdoverBoundary_credits : s.holdoverBoundary.credits = s.credits := by
  unfold State.holdoverBoundary
  split
  case h_1 | h_2 =>
    dsimp only
    split <;> simp
  all_goals rfl

theorem pinRises_credits (elapsed : Nat) : (s.pinRises elapsed).credits = s.credits := by
  unfold State.pinRises
  split
  · rfl
  · dsimp only
    split <;> simp

theorem stuckExpiry_credits : s.stuckExpiry.credits = s.credits := by
  unfold State.stuckExpiry
  split <;> simp

theorem noticeBoundary_credits : s.noticeBoundary.credits = s.credits := by
  have offered (t : State) (e : Half) : (t.offerNotice e).credits = t.credits := by
    unfold State.offerNotice
    split
    · rfl
    next l _ =>
      split
      · exact placeControl_credits t l { kind := .notice, cell := t.noticeCell e }
      · rfl
  unfold State.noticeBoundary
  split
  · rfl
  · exact offered ..

theorem tick_credits : s.tick.credits = s.credits :=
  credits_eq s (fun m => by rw [tick_port]) fun m => by rw [tick_port]

/-! ### Received cells (R46, R62 to R66, R159, R164) -/

@[simp] theorem advancePointer_credits (d : Dcn) : (s.advancePointer d).credits = s.credits := by
  rw [advancePointer_frame]; rfl

@[simp] theorem markDest_credits (d : Dcn) : (s.markDest d).credits = s.credits := rfl

@[simp] theorem markGroup_credits (g : GroupId) : (s.markGroup g).credits = s.credits := rfl

@[simp] theorem resolveMembers_credits (g : GroupId) : (s.resolveMembers l g).state.credits = s.credits := by
  have member (echo : Bool) (a : Resolving) (d : Dcn) : (resolveMember l echo a d).state.credits = a.state.credits := by
    unfold resolveMember
    split
    · simp
    · simp
    · simp
    · split
      · rfl
      · split <;> simp
  have members (echo : Bool) (ds : List Dcn) (a : Resolving) :
      (ds.foldl (resolveMember l echo) a).state.credits = a.state.credits := by
    induction ds generalizing a with
    | nil => rfl
    | cons d rest ih => rw [List.foldl_cons, ih, member]
  exact members ..

theorem takeDataU_credits (cell : Cell) : (s.takeDataU l cell).credits = s.credits := by
  unfold State.takeDataU State.resolveUnicast
  split
  · split
    · simp
    · simp
    · simp
    · split <;> simp
  · simp

theorem takeDataM_credits (cell : Cell) : (s.takeDataM l cell).credits = s.credits := by
  unfold State.takeDataM State.resolveMulticast
  split
  · split
    · simp
    · simp
    · simp
    · dsimp only
      split <;> simp
  · simp

theorem takeMgmt_credits (cell : Cell) : (s.takeMgmt l cell).credits = s.credits := by
  unfold State.takeMgmt
  split <;> rfl

theorem takeSync_credits (value : Half) (elapsed : Nat) : (s.takeSync l value elapsed).credits = s.credits := by
  unfold State.takeSync
  split_ifs <;> simp

theorem notUp_credits : (s.notUp l).credits = s.credits := by simp [State.notUp]

theorem takeDamaged_credits : (s.takeDamaged l).credits = s.credits := by simp [State.takeDamaged]

theorem takeUnknown_credits : (s.takeUnknown l).credits = s.credits := by simp [State.takeUnknown]

/-- R46: the test checker takes a cell of a link in TEST. -/
theorem checkTestCell_credits (cell : Cell) : (s.modPort l (Port.checkTestCell cell)).credits = s.credits := by
  have kept (p : Port) : (p.checkTestCell cell).credit = p.credit ∧ (p.checkTestCell cell).map = p.map := by
    unfold Port.checkTestCell
    split
    · exact ⟨rfl, rfl⟩
    · split <;> exact ⟨rfl, rfl⟩
  exact modPort_credits s l (kept _).1 (kept _).2

theorem checkDamaged_credits : (s.modPort l Port.checkDamaged).credits = s.credits := by
  have kept (p : Port) : p.checkDamaged.credit = p.credit ∧ p.checkDamaged.map = p.map := by
    unfold Port.checkDamaged
    split <;> exact ⟨rfl, rfl⟩
  exact modPort_credits s l (kept _).1 (kept _).2

end Sys2Proof.Machine
end

section
/-! SUPPORT. What the management requests and the boot loader keep of the bound on the available credit
(spec/06_congestion_signalling_and_credits.md, R126, R130; spec/09_management_requests.md, R166 to R174;
spec/11_start_up_and_boot_image.md, R192 to R197). -/

namespace Sys2Proof.Machine

variable (s : State) (l : LinkId) (f : Fields)

/-! ### Requests that leave the credits (R37, R38, R45, R71, R81, R168, R172, R173) -/

@[simp] theorem respond_credits (r : Request) (status : Status) (data : List Byte) :
    (s.respond r status data).credits = s.credits := by
  unfold State.respond
  split <;> simp

theorem judgeRead_credits : (judgeRead f s).state.credits = s.credits := by
  unfold judgeRead
  split
  · rfl
  · split <;> rfl

theorem ClearFrame.credits {t : State} (h : ClearFrame s t) : t.credits = s.credits :=
  credits_eq s (fun m => by rw [h.port]) fun m => by rw [h.port]

theorem judgeReadClear_credits : (judgeReadClear f s).state.credits = s.credits := by
  unfold judgeReadClear
  split
  · rfl
  · split
    · rfl
    · split
      · rfl
      · exact (clearFrame_foldl ..).credits

theorem judgeWriteOther_credits : (judgeWriteOther f s).state.credits = s.credits := by
  unfold judgeWriteOther
  split <;> rfl

theorem judgeWriteConfig_credits : (judgeWriteConfig f s).state.credits = s.credits := by
  unfold judgeWriteConfig
  split
  · rfl
  · split
    · rfl
    · split
      · rfl
      · split
        · exact (evaluated_applyConfig s f _).noticed.credits
        · rfl

theorem judgeRouteContents_credits (o : Object) : (judgeRouteContents f s o).state.credits = s.credits := by
  have groups (set : RouteSetId) (es : List GroupContents) (t : State) (i : Nat) :
      (t.storeGroups set i es).credits = t.credits := by
    induction es generalizing t i with
    | nil => rfl
    | cons e rest ih =>
      unfold State.storeGroups
      split
      · rw [ih, modRoutes_credits]
      · rfl
  unfold judgeRouteContents
  split
  · split
    · rfl
    · rw [storeDests_frame]; rfl
  · split
    · rfl
    · exact groups ..
  all_goals rfl

theorem judgeWriteStage_credits : (judgeWriteStage f s).state.credits = s.credits := by
  unfold judgeWriteStage
  split
  · rfl
  · split
    · rfl
    · split
      · rfl
      · exact judgeRouteContents_credits ..

theorem judgeWriteActive_credits : (judgeWriteActive f s).state.credits = s.credits := by
  unfold judgeWriteActive
  split
  · rfl
  · split
    · rfl
    · split
      · rfl
      · exact judgeRouteContents_credits ..

theorem judgeWriteMasks_credits : (judgeWriteMasks f s).state.credits = s.credits := by
  unfold judgeWriteMasks
  split <;> rfl

theorem judgeCommit_credits : (judgeCommit f s).state.credits = s.credits := by
  unfold judgeCommit
  split_ifs <;> rfl

theorem judgeCommitNow_credits : (judgeCommitNow f s).state.credits = s.credits := by
  unfold judgeCommitNow
  split_ifs <;> rfl

theorem judgeCancelCommit_credits : (judgeCancelCommit f s).state.credits = s.credits := by
  unfold judgeCancelCommit
  split
  · rfl
  · exact endCommit_credits ..

theorem judgeLinkDisableNow_credits : (judgeLinkDisableNow f s).state.credits = s.credits := by
  unfold judgeLinkDisableNow
  split
  · rfl
  · split
    · exact disableNow_credits ..
    · rfl

theorem judgeLinkDisableDrain_credits : (judgeLinkDisableDrain f s).state.credits = s.credits := by
  unfold judgeLinkDisableDrain
  split
  · rfl
  · exact disableDrain_credits ..

theorem judgeLinkTest_credits : (judgeLinkTest f s).state.credits = s.credits := by
  unfold judgeLinkTest
  split
  · rfl
  · split
    · exact modPort_credits s _ rfl rfl
    · rfl

theorem judgeCloseConfig_credits : (judgeCloseConfig f s).state.credits = s.credits := by
  unfold judgeCloseConfig
  split <;> rfl

/-! ### Requests that set the counts to 0 (R24, R25, R130) -/

theorem creditKept_enterBlank : CreditKept s (s.enterBlank l) := creditKept_modPort_zero rfl

theorem creditKept_storePortMap (entries : List PortMapEntry) (i : Nat) : CreditKept s (s.storePortMap i entries) := by
  induction entries generalizing s i with
  | nil => exact .refl s
  | cons e rest ih =>
    unfold State.storePortMap
    split
    · exact (creditKept_modPort_zero rfl).trans (ih ..)
    · exact .refl s

theorem creditKept_judgeWritePortMap : CreditKept s (judgeWritePortMap f s).state := by
  unfold judgeWritePortMap
  split
  · exact .refl s
  · split
    · exact .refl s
    · split
      · exact .refl s
      · exact creditKept_storePortMap ..

theorem creditKept_judgeLinkEnable : CreditKept s (judgeLinkEnable f s).state := by
  unfold judgeLinkEnable
  split
  · exact .refl s
  · split
    · exact creditKept_enterBlank ..
    · exact .refl s

/-! ### Resets (R130, R134) -/

theorem creditKept_elementReset (bootSel : Bool) (id : BitVec 6) : CreditKept s (s.elementReset bootSel id) :=
  .of_zero fun l => by rw [elementReset_port]; split <;> rfl

theorem creditKept_softReset : CreditKept s s.softReset := .of_zero fun l => by rw [softReset_port]; rfl

theorem creditKept_serveSoftReset : CreditKept s s.serveSoftReset := by
  unfold State.serveSoftReset
  split
  · exact .refl s
  · split
    · exact creditKept_softReset s
    · exact .refl s

/-! ### The boot loader (R192 to R197) -/

theorem creditKept_bootFailure (cause : BootCause) : CreditKept s (s.bootFailure cause) :=
  .of_zero fun l => by rw [bootFailure_port]; rfl

/-- R195: at DONE the links whose enable mark is set enter BLANK. -/
theorem creditKept_bootDone : CreditKept s s.bootDone := by
  refine ⟨fun l h => ?_⟩
  have port : s.bootDone.port l = (s.port l).bootDone s.blankDuration := port_mapPorts ..
  rw [port, Port.bootDone]
  split
  · exact creditBounded_zero rfl
  · exact h

theorem creditKept_judgeWrite : CreditKept s (judgeWrite f s).state := by
  unfold judgeWrite
  split
  · exact .of_eq (judgeWriteConfig_credits ..)
  · exact creditKept_judgeWritePortMap ..
  · exact .of_eq (judgeWriteStage_credits ..)
  · exact .of_eq (judgeWriteActive_credits ..)
  · exact .of_eq (judgeWriteMasks_credits ..)
  all_goals exact .of_eq (judgeWriteOther_credits ..)

theorem judgeEnableRecord_credits : (judgeEnableRecord f s).state.credits = s.credits := by
  unfold judgeEnableRecord
  split
  · rfl
  · split
    · rfl
    · exact modPort_credits s _ rfl rfl

theorem judgeDisableRecord_credits : (judgeDisableRecord f s).state.credits = s.credits := by
  unfold judgeDisableRecord
  split
  · rfl
  · split
    · exact modPort_credits s _ rfl rfl
    · rfl

theorem creditKept_judgeRecord : CreditKept s (judgeRecord f s).state := by
  unfold judgeRecord
  split
  · exact creditKept_judgeWrite ..
  · exact .of_eq (judgeEnableRecord_credits ..)
  · exact .of_eq (judgeDisableRecord_credits ..)
  · exact .of_eq (judgeCloseConfig_credits ..)
  all_goals exact .refl s

theorem creditKept_applyRecord (len : Nat) : CreditKept s (s.applyRecord f len) := by
  have counted (t : State) (status : Status) : (t.countRecord status).credits = t.credits := by
    unfold State.countRecord
    split <;> rfl
  exact (creditKept_judgeRecord s f).trans (.of_eq (counted ..))

theorem creditKept_applyRecords (n : Nat) : CreditKept s (State.applyRecords n s) := by
  induction n generalizing s with
  | zero => exact .refl s
  | succ n ih =>
    unfold State.applyRecords
    dsimp only
    split
    · exact creditKept_bootDone s
    · split
      · exact creditKept_bootFailure ..
      · split
        · exact .refl s
        · split
          · exact creditKept_bootFailure ..
          · split
            · exact creditKept_bootFailure ..
            · split
              · exact .refl s
              · exact (creditKept_applyRecord ..).trans (ih _)

theorem creditKept_passOne : CreditKept s s.passOne := by
  unfold State.passOne
  dsimp only
  split_ifs
  · exact .refl s
  · exact creditKept_bootFailure ..
  · exact .refl s
  · exact creditKept_bootFailure ..
  · exact creditKept_bootFailure ..
  · exact .of_eq (modBoot_credits ..)

theorem creditKept_takeBytes (bytes : List Byte) : CreditKept s (s.takeBytes bytes) := by
  have taken (g : BootLoader → BootLoader) : CreditKept s (s.modBoot g) := .of_eq (modBoot_credits ..)
  unfold State.takeBytes
  dsimp only
  split
  · exact (taken _).trans (creditKept_passOne _)
  · exact (taken _).trans (creditKept_applyRecords ..)
  all_goals exact .refl s

theorem creditKept_loseArbitration : CreditKept s s.loseArbitration := by
  have lost (g : BootLoader → BootLoader) : CreditKept s (s.modBoot g) := .of_eq (modBoot_credits ..)
  unfold State.loseArbitration
  dsimp only
  split
  · exact (lost _).trans (creditKept_bootFailure ..)
  · exact lost _

theorem creditKept_endTransfer (r : BusResult) : CreditKept s (s.endTransfer r) := by
  unfold State.endTransfer
  split
  · cases r with
    | success bytes => exact creditKept_takeBytes s bytes
    | noAck => exact creditKept_bootFailure ..
    | arbitrationLost => exact creditKept_loseArbitration s
  · exact .refl s

end Sys2Proof.Machine
end

section
/-! SUPPORT. Every step keeps the available credit within CREDIT_MAX (Sys2Proof/Safety.lean;
spec/06_congestion_signalling_and_credits.md, R126 to R130). -/

namespace Sys2Proof.Machine

variable {s t : State} {l : LinkId} {c : ClassId}

/-! ### Grants and sends (R127 to R129) -/

theorem creditKept_judgeGrant (s : State) (l : LinkId) (c : ClassId) (g : Byte) : CreditKept s (s.judgeGrant l c g) := by
  unfold State.judgeGrant
  split <;> rename_i h
  · exact creditKept_modPort (f := fun p => p.grant c g) fun hs => hs.grant h
  · exact .of_eq ((latchLink_credits ..).trans (countLink_credits ..))

theorem creditKept_takeFlow (s : State) (l : LinkId) (cell : Cell) : CreditKept s (s.takeFlow l cell) :=
  creditKept_foldl (op := fun t c => t.judgeGrant l c (cell.byte c.val)) (fun _ _ => creditKept_judgeGrant ..) allClasses s

/-- R129: a cell is sent only where its class has credit. -/
theorem creditKept_sendData (h : 1 ≤ ((s.port l).credit.available c).toNat) : CreditKept s (s.sendData l c) := by
  unfold State.sendData
  split
  · exact .refl s
  next slot rest _ =>
    have removed : ((s.hand l (s.headCell l c)).removeHead l c slot rest).credits = s.credits :=
      (removeHead_credits ..).trans (hand_credits ..)
    have credit : (((s.hand l (s.headCell l c)).removeHead l c slot rest).port l).credit = (s.port l).credit :=
      congrArg Prod.fst (congrFun removed l)
    refine .trans (.of_eq removed) (.trans (creditKept_modPort (f := fun p => p.countSent c) fun hs => hs.countSent ?_)
      (.of_eq (tellQueuesEmpty_credits ..)))
    rwa [credit]

/-- R143: the round robin selects a class that is eligible. -/
theorem creditKept_sendRoundRobin (s : State) (l : LinkId) : CreditKept s (s.sendRoundRobin l) := by
  have examined : (s.modPort l fun p => { p with sched := (s.roundRobin l).1 }).credits = s.credits := modPort_credits s l rfl rfl
  unfold State.sendRoundRobin
  dsimp only
  split <;> rename_i h
  · refine .trans (.of_eq examined) (creditKept_sendData ?_)
    rw [port_modPort_self]
    exact available_of_eligible (examine_eligible h)
  · exact .of_eq ((hand_credits ..).trans examined)

theorem creditKept_select (s : State) (l : LinkId) : CreditKept s (s.select l) := by
  unfold State.select
  split
  · exact .of_eq ((modPort_credits _ l rfl rfl).trans (hand_credits ..))
  · split
    · exact .of_eq ((modPort_credits _ l rfl rfl).trans (hand_credits ..))
    · split <;> rename_i h
      · exact creditKept_sendData (available_of_eligible h)
      · exact creditKept_sendRoundRobin s l

theorem creditKept_ready (s : State) (l : LinkId) : CreditKept s (s.ready l) := by
  unfold State.ready
  split
  case h_5 => exact .of_eq ((modUnit_credits ..).trans (hand_credits ..))
  case h_7 | h_8 => exact .trans (.of_eq (countLink_credits ..)) (creditKept_select _ l)
  all_goals exact .of_eq (hand_credits ..)

/-! ### Automatic recovery and received cells (R16, R43, R130) -/

theorem creditKept_endHoldDown (s : State) (l : LinkId) : CreditKept s (s.endHoldDown l) := by
  unfold State.endHoldDown
  split
  · dsimp only
    split
    · exact .of_eq ((latchLink_credits ..).trans (modUnit_credits ..))
    · exact .trans (.of_eq (modUnit_credits ..)) (creditKept_enterBlank ..)
  · exact .refl s

theorem creditKept_checked {cell : Cell} {k : State → State} (h : CreditKept s (k s)) : CreditKept s (s.checked l cell k) := by
  unfold State.checked
  split
  · exact h
  · exact .of_eq ((report_credits ..).trans (countLink_credits ..))

/-- What a consumer makes of a cell, and its report to the link unit. -/
theorem CreditKept.report {r : Report} (h : CreditKept s t) : CreditKept s (t.report l r) :=
  h.trans (.of_eq (report_credits ..))

theorem creditKept_takeIdle (s : State) (l : LinkId) (cell : Cell) : CreditKept s (s.takeIdle l cell) :=
  creditKept_checked (.of_eq (report_credits ..))

/-- A received cell, by the state of its link (R16). -/
theorem creditKept_receive {onTest onQualify onService : State → State} (ht : CreditKept s (onTest s))
    (hq : ∀ t, CreditKept t (onQualify t)) (hs : ∀ t, CreditKept t (onService t)) :
    CreditKept s (s.receive l onTest onQualify onService) := by
  have counted : CreditKept s (s.countLink l .rxCells) := .of_eq (countLink_credits ..)
  unfold State.receive
  split
  · exact ht
  · exact counted.trans (hq _)
  · exact counted.trans (hs _)
  · exact counted.trans (hs _)
  all_goals exact .refl s

/-! ### Commands -/

/-- A command's step keeps the available credit within CREDIT_MAX. -/
def KeepsCredit (x : State → Host.Outcome State Fault Refusal) : Prop := ∀ s t, x s = .next t → CreditKept s t

theorem keepsCredit_next {g : State → State} (h : ∀ s, CreditKept s (g s)) : KeepsCredit fun s => .next (g s) := by
  rintro s t e
  obtain rfl := Host.Outcome.next.inj e
  exact h s

theorem keepsCredit_act {g : State → State} (h : ∀ s, CreditKept s (g s)) : KeepsCredit (act g) := by
  refine keepsCredit_next fun s => ?_
  split
  · exact .refl s
  · exact h s

/-- A command that leaves the credits. -/
theorem keepsCredit_of_eq {g : State → State} (h : ∀ s, (g s).credits = s.credits) : KeepsCredit (act g) :=
  keepsCredit_act fun s => .of_eq (h s)

theorem keepsCredit_serve {kind : ServiceKind} {judge : Fields → State → Served}
    (h : ∀ u f, CreditKept u (judge f u).state) : KeepsCredit (act (serve kind judge)) := by
  refine keepsCredit_act fun s => ?_
  unfold serve
  split
  · exact .refl s
  next r rest _ =>
    split
    · exact .trans (.of_eq (dropRequest_credits s rest)) ((h _ r.fields).trans (.of_eq (respond_credits ..)))
    · exact .refl s

theorem keepsCredit_serve_of_eq {kind : ServiceKind} {judge : Fields → State → Served}
    (h : ∀ u f, (judge f u).state.credits = u.credits) : KeepsCredit (act (serve kind judge)) :=
  keepsCredit_serve fun u f => .of_eq (h u f)

theorem keepsCredit_receive {b : Bool} {onTest onQualify onService : State → State} (ht : ∀ s, CreditKept s (onTest s))
    (hq : ∀ s, CreditKept s (onQualify s)) (hs : ∀ s, CreditKept s (onService s)) :
    KeepsCredit (act fun s => if b then s.receive l onTest onQualify onService else s) := by
  refine keepsCredit_act fun s => ?_
  split
  · exact creditKept_receive (ht s) hq hs
  · exact .refl s

/-- A received cell that brings no grant. -/
theorem keepsCredit_receive_of_eq {b : Bool} {onTest onQualify onService : State → State}
    (ht : ∀ s, (onTest s).credits = s.credits) (hq : ∀ s, (onQualify s).credits = s.credits)
    (hs : ∀ s, CreditKept s (onService s)) :
    KeepsCredit (act fun s => if b then s.receive l onTest onQualify onService else s) :=
  keepsCredit_receive (fun s => .of_eq (ht s)) (fun s => .of_eq (hq s)) hs

theorem keepsCredit_transmitReady (l : LinkId) : KeepsCredit (execTransmitReady l) := by
  refine keepsCredit_next fun s => ?_
  split
  · exact .of_eq (hand_credits ..)
  · exact creditKept_ready s l

theorem keepsCredit_epochInRisingEdge (elapsed : Nat) : KeepsCredit (execEpochInRisingEdge elapsed) := by
  refine keepsCredit_next fun s => .of_eq ?_
  split
  · rfl
  · exact pinRises_credits s elapsed

theorem keepsCredit_exec (i : Instr) : KeepsCredit (exec i) := by
  cases i with
  | elementReset bootSel id => exact keepsCredit_next (creditKept_elementReset · bootSel id)
  | resetNLow => exact keepsCredit_next fun s => .of_eq rfl
  | dataUReceived l cell =>
    exact keepsCredit_receive_of_eq (fun _ => rfl) (notUp_credits · l) fun s => .report (.of_eq (takeDataU_credits s l cell))
  | dataMReceived l cell =>
    exact keepsCredit_receive_of_eq (fun _ => rfl) (notUp_credits · l) fun s => .report (.of_eq (takeDataM_credits s l cell))
  | flowReceived l cell =>
    exact keepsCredit_receive_of_eq (fun _ => rfl) (notUp_credits · l) fun s =>
      creditKept_checked (.report (creditKept_takeFlow s l cell))
  | mgmtReceived l cell =>
    exact keepsCredit_receive_of_eq (fun _ => rfl) (notUp_credits · l) fun s =>
      creditKept_checked (.report (.of_eq (takeMgmt_credits s l cell)))
  | syncReceived l cell elapsed =>
    exact keepsCredit_receive_of_eq (fun _ => rfl) (notUp_credits · l) fun s =>
      creditKept_checked (.report (.of_eq (takeSync_credits s l _ elapsed)))
  | idleReceived l cell =>
    exact keepsCredit_receive (fun s => .refl s) (creditKept_takeIdle · l cell) (creditKept_takeIdle · l cell)
  | markerReceived l cell =>
    exact keepsCredit_receive_of_eq (fun _ => rfl) (report_credits · l .marker) fun s => .report (.refl s)
  | testReceived l cell =>
    exact keepsCredit_receive_of_eq (checkTestCell_credits · l cell) (notUp_credits · l) fun s => .report (.refl s)
  | damagedCellReceived l cell =>
    exact keepsCredit_receive_of_eq (checkDamaged_credits · l) (takeDamaged_credits · l) fun s => .of_eq (takeDamaged_credits s l)
  | unknownTypeReceived l cell =>
    exact keepsCredit_receive_of_eq (fun _ => rfl) (takeUnknown_credits · l) fun s => .of_eq (takeUnknown_credits s l)
  | storageUpset x => exact keepsCredit_of_eq (modRoutes_credits · _)
  | lossTimerExpiry l => exact keepsCredit_of_eq (lossExpiry_credits · l)
  | gapTimerExpiry => exact keepsCredit_of_eq gapExpiry_credits
  | timerBoundary => exact keepsCredit_of_eq timerBoundary_credits
  | holdoverBoundary => exact keepsCredit_of_eq holdoverBoundary_credits
  | epochInRisingEdge elapsed => exact keepsCredit_epochInRisingEdge elapsed
  | epochInFallingEdge => exact keepsCredit_next fun s => .of_eq (modEpoch_credits ..)
  | stuckTimerExpiry => exact keepsCredit_of_eq stuckExpiry_credits
  | epochOutFall => exact keepsCredit_of_eq (modEpoch_credits · _)
  | linkBoundaryWork l => exact keepsCredit_of_eq (linkBoundary_credits · l)
  | drainLimit l => exact keepsCredit_of_eq (drainAtLimit_credits · l)
  | holdDownEnd l => exact keepsCredit_act (creditKept_endHoldDown · l)
  | commitBoundary => exact keepsCredit_of_eq commitBoundary_credits
  | refresh => exact keepsCredit_of_eq refreshFlow_credits
  | noticeBoundary => exact keepsCredit_of_eq noticeBoundary_credits
  | walkExamination => exact keepsCredit_of_eq walkOne_credits
  | checkCompletion => exact keepsCredit_of_eq completeWalk_credits
  | flushRemoval l => exact keepsCredit_of_eq (flushOne_credits · l)
  | flushCompletion l => exact keepsCredit_of_eq (flushEnd_credits · l)
  | transmitReady l => exact keepsCredit_transmitReady l
  | read => exact keepsCredit_serve_of_eq judgeRead_credits
  | readClear => exact keepsCredit_serve_of_eq judgeReadClear_credits
  | write => exact keepsCredit_serve_of_eq judgeWriteOther_credits
  | writeConfig => exact keepsCredit_serve_of_eq judgeWriteConfig_credits
  | writePortMap => exact keepsCredit_serve creditKept_judgeWritePortMap
  | writeStage => exact keepsCredit_serve_of_eq judgeWriteStage_credits
  | writeActive => exact keepsCredit_serve_of_eq judgeWriteActive_credits
  | writeMasks => exact keepsCredit_serve_of_eq judgeWriteMasks_credits
  | commit => exact keepsCredit_serve_of_eq judgeCommit_credits
  | commitNow => exact keepsCredit_serve_of_eq judgeCommitNow_credits
  | cancelCommit => exact keepsCredit_serve_of_eq judgeCancelCommit_credits
  | linkEnable => exact keepsCredit_serve creditKept_judgeLinkEnable
  | linkDisableNow => exact keepsCredit_serve_of_eq judgeLinkDisableNow_credits
  | linkDisableDrain => exact keepsCredit_serve_of_eq judgeLinkDisableDrain_credits
  | linkTest => exact keepsCredit_serve_of_eq judgeLinkTest_credits
  | closeConfig => exact keepsCredit_serve_of_eq judgeCloseConfig_credits
  | setEpoch | echo | unknownCommand => exact keepsCredit_serve_of_eq fun _ _ => rfl
  | softReset => exact keepsCredit_act creditKept_serveSoftReset
  | busTransferEnd r => exact keepsCredit_act (creditKept_endTransfer · r)
  | transferRepeat => exact keepsCredit_of_eq (modBoot_credits · _)
  | signalLost l | signalRestored l | alignmentGained l | alignmentLost l | blankTimerExpiry l | flapClear l =>
    exact keepsCredit_of_eq (modUnit_credits · l _)

/-! ### Steps -/

theorem creditKept_step (h : step s = .next t) : CreditKept s t := by
  unfold step at h
  split at h
  · unfold idleStep at h
    split at h
    · exact keepsCredit_next CreditKept.refl s t h
    · split at h
      · exact keepsCredit_exec _ s t h
      · exact keepsCredit_next (g := State.tick) (fun s => .of_eq (tick_credits s)) s t h
  next i waiting _ =>
    have waits : CreditKept s { s with pending := waiting } := .of_eq rfl
    exact waits.trans (keepsCredit_exec i _ t h)

/-- Settles O54: an accepted grant is within CREDIT_MAX, a send takes from the available credit, a zeroing leaves none, and every
other operation leaves G, S and CREDIT_MAX. -/
theorem stepsKeepCreditsBounded : Obligations.StepsKeepCreditsBounded :=
  fun _ _ hs h => creditBounded_iff.2 fun l => (creditKept_step h).port l (creditBounded_iff.1 hs l)

end Sys2Proof.Machine
end

section
/-! SUPPORT. The round robin (spec/07_link_transmit_scheduling.md, R142, R143): the examination of one class, by whether it is
eligible and by what is left of its grant. -/

namespace Sys2Proof.Machine

/-! ### The cycle (R142) -/

/-- After three advances the round robin stands where it stood. -/
theorem next_next_next (k : RoundRobin) : k.next.next.next = k := by cases k <;> rfl

/-! ### One class examined (R143) -/

section

variable {eligible : ClassId → Bool} {weight : RoundRobin → Nat} {x : Scheduler} {n : Nat}

/-- An eligible class with more than one selection left keeps its turn. -/
theorem examine_spends (h : eligible x.position.toClass = true) (hg : 2 ≤ x.grant) :
    Scheduler.examine eligible weight (n + 1) x = ({ x with grant := x.grant - 1 }, some x.position) := by
  rw [Scheduler.examine, if_pos h, if_neg (by omega)]

/-- An eligible class gives up its turn with the last selection of its grant. -/
theorem examine_spends_last (h : eligible x.position.toClass = true) (hg : x.grant ≤ 1) :
    Scheduler.examine eligible weight (n + 1) x = (x.advance weight, some x.position) := by
  rw [Scheduler.examine, if_pos h, if_pos hg]

/-- A class that is not eligible forfeits its grant, and the next is examined. -/
theorem examine_forfeits (h : eligible x.position.toClass = false) :
    Scheduler.examine eligible weight (n + 1) x = Scheduler.examine eligible weight n (x.advance weight) := by
  rw [Scheduler.examine, if_neg (by simp [h])]

/-- The advance from the third class comes back to the position. -/
theorem advance_advance_advance (x : Scheduler) (weight : RoundRobin → Nat) :
    ((x.advance weight).advance weight).advance weight = { x with grant := weight x.position } := by
  simp only [Scheduler.advance, next_next_next]

end

/-! ### The statement -/

/-- Settles O32: one examination after another, of at most three classes; each case is the forfeits before the class that is
selected, and then its spending. -/
theorem roundRobinExamination : Obligations.RoundRobinExamination := by
  refine ⟨⟨rfl, rfl⟩, fun s l x e hx he => ?_⟩
  subst hx
  simp only [he]
  have robin : s.roundRobin l = Scheduler.examine (s.port l).eligible s.weight 3 (s.port l).sched := rfl
  have back := advance_advance_advance (s.port l).sched s.weight
  rw [robin]
  refine ⟨examine_spends, examine_spends_last,
    fun h₀ h₁ hw => ?second, fun h₀ h₁ hw => ?secondLast, fun h₀ h₁ h₂ hw => ?third, fun h₀ h₁ h₂ hw => ?thirdLast,
    fun h₀ h₁ h₂ => ?none⟩
  case second => exact (examine_forfeits h₀).trans (examine_spends h₁ hw)
  case secondLast => exact (examine_forfeits h₀).trans (examine_spends_last h₁ hw)
  case third => exact (examine_forfeits h₀).trans ((examine_forfeits h₁).trans (examine_spends h₂ hw))
  case thirdLast =>
    rw [examine_forfeits h₀, examine_forfeits h₁, examine_spends_last h₂ hw, back]
    rfl
  case none =>
    rw [examine_forfeits h₀, examine_forfeits h₁, examine_forfeits h₂, back]
    rfl

end Sys2Proof.Machine
end

section
/-! SUPPORT. The selection on a link in UP or DRAINING (spec/07_link_transmit_scheduling.md, R136 to R146), by what is available. -/

namespace Sys2Proof.Machine

variable {s : State} {l : LinkId}

/-! ### Eligibility (R140) -/

theorem eligible_iff {p : Port} {c : ClassId} : p.eligible c = true ↔
    p.queues.lists[c] ≠ [] ∧ 1 ≤ (p.credit.available c).toNat ∧ p.queues.flushing = false := by
  simp [Port.eligible, and_assoc]

/-! ### What each selection changes (R137, R138, R143, R144) -/

theorem sendFlow_eq (s : State) (l : LinkId) :
    s.sendFlow l = s.modPort l fun p => { p with transmitter := some s.flowCell, flowDue := false } :=
  modPort_modPort ..

theorem sendControl_eq (s : State) (l : LinkId) (x : ControlCell) (rest : List ControlCell) :
    s.sendControl l x rest = s.modPort l fun p =>
      { p with transmitter := some x.cell, sched := { p.sched with control := rest } } :=
  modPort_modPort ..

theorem sendRoundRobin_class {x : Scheduler} {k : RoundRobin} (h : s.roundRobin l = (x, some k)) :
    s.sendRoundRobin l = (s.modPort l fun p => { p with sched := x }).sendData l k.toClass := by
  simp only [State.sendRoundRobin, h]

theorem sendRoundRobin_idle {x : Scheduler} (h : s.roundRobin l = (x, none)) :
    s.sendRoundRobin l = s.modPort l fun p => { p with sched := x, transmitter := some (s.idleCell l) } := by
  simp only [State.sendRoundRobin, h]
  exact modPort_modPort ..

/-! ### The order of the selection (R136) -/

theorem select_flow (h : (s.port l).flowDue = true) : s.select l = s.sendFlow l := if_pos h

theorem select_control {x : ControlCell} {rest : List ControlCell} (hf : (s.port l).flowDue = false)
    (hc : (s.port l).sched.control = x :: rest) : s.select l = s.sendControl l x rest := by
  simp [State.select, hf, hc]

theorem select_data (hf : (s.port l).flowDue = false) (hc : (s.port l).sched.control = []) :
    s.select l = if (s.port l).eligible 0 then s.sendData l 0 else s.sendRoundRobin l := by
  simp only [State.select, hf, hc, Bool.false_eq_true, if_false]

/-! ### The readiness (R135, R146) -/

theorem ready_inService (h : (s.port l).unit.state = .up ∨ (s.port l).unit.state = .draining) :
    s.ready l = (s.countLink l .txCells).select l := by
  rcases h with h | h <;> simp only [State.ready, h]

theorem exec_transmitReady (hr : s.inReset = false) : exec (.transmitReady l) s = .next (s.ready l) :=
  congrArg _ (if_neg (by simp [hr]))

/-- Settles O30: the readiness counts in TX_CELLS and selects in the state so counted, in the order of `State.select`. -/
theorem selectionInService : Obligations.SelectionInService := by
  intro s l s' p hr hs hs' hp
  have selects : exec (.transmitReady l) s = .next (s'.select l) := by
    rw [exec_transmitReady hr, ready_inService hs, hs']
  rw [selects]
  subst hp
  refine ⟨fun hf => ?flow, fun hf x rest hc => ?control, fun hf hc => ⟨fun h0 => ?class0, fun h0 x => ⟨fun k hx => ?robin,
    fun hx => ?idle⟩⟩, fun c => eligible_iff⟩
  case flow => rw [select_flow hf, sendFlow_eq]
  case control => rw [select_control hf hc, sendControl_eq]
  case class0 => rw [select_data hf hc, if_pos h0]
  case robin => rw [select_data hf hc, if_neg (by simp [h0]), sendRoundRobin_class hx]
  case idle => rw [select_data hf hc, if_neg (by simp [h0]), sendRoundRobin_idle hx]

end Sys2Proof.Machine
end

section
/-! SUPPORT. RESET_N low (spec/11_start_up_and_boot_image.md, R191): what the commands do in an element that is held in reset. -/

namespace Sys2Proof.Machine

variable {s : State} {l : LinkId}

/-! ### The commands that a held element still takes (R158, R191) -/

theorem exec_transmitReady_held (h : s.inReset = true) : exec (.transmitReady l) s = .next (s.hand l none) :=
  congrArg _ (if_pos h)

theorem exec_epochInRisingEdge_held (elapsed : Nat) (h : s.inReset = true) :
    exec (.epochInRisingEdge elapsed) s = .next (s.modEpoch fun e => { e with pinHigh := true }) :=
  congrArg _ (if_pos h)

theorem exec_epochInFallingEdge (s : State) : exec .epochInFallingEdge s = .next (s.modEpoch EpochUnit.pinFalls) := rfl

/-! ### The other commands -/

theorem exec_resetNLow (s : State) : exec .resetNLow s = .next s.holdReset := rfl

/-- RESET_N going low again finds nothing left to abandon. -/
theorem holdReset_holdReset (s : State) : s.holdReset.holdReset = s.holdReset := rfl

/-- Every command but those of the reset, of the pin and of a transmitter acts through `act`, which a held element stops. -/
theorem exec_eq_act (c : Instr) (hreset : ∀ bootSel id, c ≠ .elementReset bootSel id) (hlow : c ≠ .resetNLow)
    (hrise : ∀ e, c ≠ .epochInRisingEdge e) (hfall : c ≠ .epochInFallingEdge) (hready : ∀ l, c ≠ .transmitReady l) :
    ∃ f, exec c = act f := by
  cases c with
  | elementReset bootSel id => exact absurd rfl (hreset bootSel id)
  | resetNLow => exact absurd rfl hlow
  | epochInRisingEdge e => exact absurd rfl (hrise e)
  | epochInFallingEdge => exact absurd rfl hfall
  | transmitReady l => exact absurd rfl (hready l)
  | _ => exact ⟨_, rfl⟩

/-- Settles O4: the state that RESET_N_LOW leaves, then each command in it. -/
theorem resetNLowHoldsTheElement : Obligations.ResetNLowHoldsTheElement := by
  intro s
  have held : s.holdReset.inReset = true := rfl
  refine ⟨s.holdReset, exec_resetNLow s, held, fun _ => rfl, fun _ => exec_transmitReady_held held, rfl, if_pos held, rfl, rfl, rfl, rfl, rfl,
    rfl, rfl, rfl, rfl, fun elapsed => exec_epochInRisingEdge_held elapsed held, exec_epochInFallingEdge _,
    fun c hreset hrise hfall hready => ?_⟩
  by_cases hlow : c = .resetNLow
  · rw [hlow, exec_resetNLow, holdReset_holdReset]
  · obtain ⟨f, hf⟩ := exec_eq_act c hreset hlow hrise hfall hready
    rw [hf, act_held f held]

end Sys2Proof.Machine
end

section
/-! SUPPORT. The boundaries of the epoch unit and the external epochs (spec/08_the_epoch.md, R149, R151 to R157). -/

namespace Sys2Proof.Machine

variable {s : State} {carried : Option Half} {elapsed : Nat}

/-! ### What a boundary does (R149, R152 to R154) -/

/-- R153: the boundaries that latch EPOCH_JUMP. -/
theorem jumps_iff (e : EpochUnit) (carried : Option Half) :
    e.jumps carried = true ↔ e.pending = none ∧ ∃ v, carried = some v ∧ v ≠ e.count + 1 := by
  cases carried <;> simp [EpochUnit.jumps]

theorem boundary_epoch (s : State) (carried : Option Half) (sync : SyncState) (missRun : Nat) (lost : Bool) :
    (s.boundary carried sync missRun lost).epoch =
      s.epoch.atBoundary carried sync missRun s.periodWritten s.tolWritten := by
  rw [boundary_frame]

theorem boundary_port (s : State) (carried : Option Half) (sync : SyncState) (missRun : Nat) (lost : Bool) (l : LinkId) :
    (s.boundary carried sync missRun lost).port l = { s.port l with boundaries := (s.port l).boundaries + 1 } := by
  rw [boundary_frame]
  exact port_mapPorts s (fun p => { p with boundaries := p.boundaries + 1 }) l

/-- R152, R153: the notice unit at a boundary: EPOCH_JUMP, if it latches, and the delivery. -/
theorem boundary_notice (s : State) (carried : Option Half) (sync : SyncState) (missRun : Nat) (lost : Bool) :
    (s.boundary carried sync missRun lost).notice =
      { (if s.epoch.jumps carried = true then s.latch .epochJump else s).notice with
        boundaries := s.notice.boundaries ++ [s.epoch.nextCount carried] } := by
  unfold State.boundary State.deliver
  dsimp only
  split <;> rfl

theorem boundary_elementFlag (s : State) (carried : Option Half) (sync : SyncState) (missRun : Nat) (lost : Bool)
    (f : ElementFlag) : (s.boundary carried sync missRun lost).elementFlag f =
      (decide (s.epoch.jumps carried = true ∧ f = .epochJump) || s.elementFlag f) := by
  rw [← elementFlag_ite_latch, State.elementFlag, boundary_notice]
  rfl

/-- R184: the notice that EPOCH_JUMP makes pending. -/
theorem boundary_noticePending (s : State) (carried : Option Half) (sync : SyncState) (missRun : Nat) (lost : Bool) :
    (s.boundary carried sync missRun lost).notice.pending =
      (s.notice.pending ||
        (s.epoch.jumps carried && !s.elementFlag .epochJump && !s.notice.elementMasks.getLsbD (ElementFlag.bit .epochJump))) := by
  rw [boundary_notice]
  cases s.epoch.jumps carried
  · exact (Bool.or_false _).symm
  · exact latch_makesPending s .epochJump

/-- Of the notice unit a boundary moves the flags, notice-pending and what waits to be handled. -/
theorem boundary_notice_frame (s : State) (carried : Option Half) (sync : SyncState) (missRun : Nat) (lost : Bool) :
    (s.boundary carried sync missRun lost).notice =
      { s.notice with
        flags := (s.boundary carried sync missRun lost).notice.flags
        pending := (s.boundary carried sync missRun lost).notice.pending
        boundaries := s.notice.boundaries ++ [s.epoch.nextCount carried] } := by
  rw [boundary_notice]
  split <;> rfl

/-- Settles O36: a boundary by its frame, and the notice unit by whether the boundary jumps. -/
theorem boundaryEffect : Obligations.BoundaryEffect := by
  rintro s carried sync missRun lost t e rfl he
  obtain rfl : e = s.epoch.nextCount carried := by
    rw [he, EpochUnit.nextCount]
    cases s.epoch.pending <;> cases carried <;> rfl
  have frame := boundary_frame s carried sync missRun lost
  have flag := boundary_elementFlag s carried sync missRun lost
  have notice := boundary_notice_frame s carried sync missRun lost
  refine ⟨boundary_epoch .., boundary_port s carried sync missRun lost, ?_, ?_, ?_, ?_, fun f hf => ?_, fun jump hj => ?_, ?_⟩
  · rw [frame]
  · rw [frame]
  · rw [notice]
  · rw [flag, ← jumps_iff]
    simp [or_comm]
  · simp [flag, hf]
  · obtain rfl : jump = s.epoch.jumps carried := Bool.eq_iff_iff.2 (hj.trans (jumps_iff ..).symm)
    rw [← boundary_noticePending s carried sync missRun lost]
    exact notice
  · rw [frame]
    exact ⟨rfl, rfl, rfl, rfl, rfl⟩

/-! ### The timer's own boundaries (R151, R155 to R157) -/

theorem timerBoundary_ticking (h : s.epoch.sync = .free ∨ s.epoch.sync = .acquiring ∨ s.epoch.sync = .lost) :
    s.timerBoundary = s.boundary none s.epoch.sync s.epoch.missRun false := by
  unfold State.timerBoundary
  rcases h with h | h | h <;> rw [h]

/-- R156: a miss before the fourth in a row. -/
theorem holdoverBoundary_missed (h : s.epoch.sync = .locked ∨ s.epoch.sync = .holdover) (hm : s.epoch.missRun < 3) :
    s.holdoverBoundary =
      ((s.countElement .epochMissedCount).latch .epochMissed).boundary none .holdover (s.epoch.missRun + 1) false := by
  have few : ¬4 ≤ s.epoch.missRun + 1 := by omega
  unfold State.holdoverBoundary
  rcases h with h | h <;> (rw [h]; exact if_neg few)

/-- R156: the fourth miss in a row. -/
theorem holdoverBoundary_lost (h : s.epoch.sync = .locked ∨ s.epoch.sync = .holdover) (hm : s.epoch.missRun = 3) :
    s.holdoverBoundary =
      (((s.countElement .epochMissedCount).latch .epochMissed).latch .epochLost).boundary none .lost 4 true := by
  unfold State.holdoverBoundary
  rcases h with h | h <;> (rw [h, hm]; rfl)

/-! ### External epochs (R151, R155 to R157) -/

theorem externalEpoch_free (h : s.epoch.sync = .free) : s.externalEpoch carried elapsed = s := by
  rw [State.externalEpoch, h]

theorem externalEpoch_atOnce (h : s.epoch.sync = .acquiring ∨ s.epoch.sync = .lost) :
    s.externalEpoch carried elapsed = s.boundary carried .locked 0 false := by
  rcases h with h | h <;> rw [State.externalEpoch, h]

/-- R156: the window timer as it stands when an external epoch is judged. -/
def State.atReading (s : State) (elapsed : Nat) : State := s.modEpoch fun e => { e with window := s.epoch.reading elapsed }

/-- R156: an external epoch in LOCKED and in HOLDOVER, by the reading of the window timer. -/
theorem externalEpoch_judged (h : s.epoch.sync = .locked ∨ s.epoch.sync = .holdover) :
    s.externalEpoch carried elapsed =
      if s.epoch.reading elapsed < s.epoch.period - s.epoch.tol then
        ((s.atReading elapsed).countElement .epochEarlyCount).latch .epochEarly
      else (s.atReading elapsed).boundary carried .locked 0 false := by
  rcases h with h | h <;> (rw [State.externalEpoch, h]; rfl)

/-- The reading is the operand itself from the timer's own value to the holdover mark. -/
theorem reading_eq {e : EpochUnit} (hw : e.window ≤ elapsed) (hm : elapsed ≤ e.period + e.tol) : e.reading elapsed = elapsed := by
  unfold EpochUnit.reading
  omega

/-- Settles O37: the timer's boundaries by the sync state and the miss run, an external epoch by the sync state and the reading. -/
theorem boundaryRules : Obligations.BoundaryRules := by
  refine ⟨fun s hr => ⟨fun h => ?_, ?_⟩, fun s carried elapsed => ⟨externalEpoch_free, externalEpoch_atOnce, ?_⟩⟩
  · rw [← timerBoundary_ticking h]
    exact act_run _ hr
  · have held : exec .holdoverBoundary s = .next s.holdoverBoundary := act_run _ hr
    rintro h t rfl
    rw [held]
    exact ⟨fun hm => by rw [holdoverBoundary_missed h hm], fun hm => by rw [holdoverBoundary_lost h hm]⟩
  · rintro h hw hm u rfl
    have reading : s.atReading elapsed = { s with epoch := { s.epoch with window := elapsed } } := by
      rw [State.atReading, reading_eq hw hm]; rfl
    rw [externalEpoch_judged h, reading_eq hw hm, reading]
    exact ⟨fun early => if_pos early, fun inside => if_neg (Nat.not_lt.2 inside)⟩

end Sys2Proof.Machine
end

section
/-! SUPPORT. The requests without a rule of their own elsewhere: SET_EPOCH, CLOSE_CONFIG, ECHO, WRITE of MASKS, WRITE of an object that
takes none, and an unknown command (spec/08_the_epoch.md, R160; spec/09_management_requests.md, R166 to R170, R176, R178;
spec/10_flags_notices_and_counters.md, R183). -/

namespace Sys2Proof.Machine

variable {s : State} {f : Fields} {status : Status}

/-! ### Which row serves a request, and its judgement (R168 to R170) -/

theorem kind_setEpoch (h : f.command = 0x30) : f.kind = .setEpoch := by rw [Fields.kind, h]; rfl

theorem kind_closeConfig (h : f.command = 0x40) : f.kind = .closeConfig := by rw [Fields.kind, h]; rfl

theorem kind_echo (h : f.command = 0x7E) : f.kind = .echo := by rw [Fields.kind, h]; rfl

theorem kind_unknownCommand (h : commandOf f.command = none) : f.kind = .unknownCommand := by rw [Fields.kind, h]

/-- The row of a WRITE is that of its object. -/
theorem kind_write (h : f.command = 0x02) : f.kind = writeKind (objectOf f.object) := by rw [Fields.kind, h]; rfl

theorem kind_writeMasks (h : f.command = 0x02) (ho : f.object = 0x0C) : f.kind = .writeMasks := by rw [kind_write h, ho]; rfl

/-- R170: the objects that no WRITE changes. -/
theorem kind_writeReadOnly {o : Object} (h : f.command = 0x02) (hf : objectOf f.object = some o) (ho : o.writable = false) :
    f.kind = .write := by
  rw [kind_write h, hf]
  cases o with
  | config | portMap | dest | group | masks => exact Bool.noConfusion ho
  | _ => rfl

theorem judgeCloseConfig_config (h : s.agent.phase = .config) :
    judgeCloseConfig f s = taken { s with agent := { s.agent with phase := .run } } := if_pos h

theorem judgeCloseConfig_run (h : s.agent.phase = .run) : judgeCloseConfig f s = refuse s .phase :=
  if_neg fun hc => Phase.noConfusion (h.symm.trans hc)

theorem judgeWriteMasks_refused (h : f.shapeRefusal .masks = some status) : judgeWriteMasks f s = refuse s status := by
  simp only [judgeWriteMasks, h]

theorem judgeWriteMasks_taken (h : f.shapeRefusal .masks = none) : judgeWriteMasks f s =
    taken { s with notice := { s.notice with elementMasks := halfAt f.data 0, linkMasks := (byteAt f.data 2).setWidth 5 } } := by
  simp only [judgeWriteMasks, h]

theorem judgeWriteOther_unknown (h : objectOf f.object = none) : judgeWriteOther f s = refuse s .badObject := by
  simp only [judgeWriteOther, h]

theorem judgeWriteOther_known {o : Object} (h : objectOf f.object = some o) : judgeWriteOther f s = refuse s .readOnly := by
  simp only [judgeWriteOther, h]

/-! ### The rows, by what the judgement `v` of the request comes to (R166) -/

section
variable {r : Request} {rest : List Request} {v : Served} (hr : s.inReset = false) (hq : s.agent.requests = r :: rest)
include hr hq

theorem act_serve_head {kind : ServiceKind} {judge : Fields → State → Served} (hk : r.fields.kind = kind)
    (hv : judge r.fields (s.dropRequest rest) = v) :
    act (serve kind judge) s = .next (v.state.respond r v.status v.data) :=
  (act_run _ hr).trans (congrArg _ (serve_head_eq hq hk hv))

theorem exec_closeConfig (hc : r.fields.command = 0x40) (hv : judgeCloseConfig r.fields (s.dropRequest rest) = v) :
    exec .closeConfig s = .next (v.state.respond r v.status v.data) :=
  act_serve_head hr hq (kind_closeConfig hc) hv

theorem exec_writeMasks (hc : r.fields.command = 0x02) (ho : r.fields.object = 0x0C)
    (hv : judgeWriteMasks r.fields (s.dropRequest rest) = v) :
    exec .writeMasks s = .next (v.state.respond r v.status v.data) :=
  act_serve_head hr hq (kind_writeMasks hc ho) hv

theorem exec_write (hk : r.fields.kind = .write) (hv : judgeWriteOther r.fields (s.dropRequest rest) = v) :
    exec .write s = .next (v.state.respond r v.status v.data) :=
  act_serve_head hr hq hk hv

end

/-- Settles O46: each request by its judgement in the state that its removal from the queue leaves. -/
theorem otherCommands : Obligations.OtherCommands := by
  intro s u r rest f hr hq hf hu
  subst hf hu
  refine ⟨fun hc => ?_, fun hc hp => ?_, fun hc hp => ?_, fun hc => ⟨rfl, ?_⟩, fun hc ho => ⟨fun h => ?_, fun status h => ?_⟩,
    fun hc ho => ?_, fun o hc ho hro => ?_, fun hc => ?_⟩
  · exact act_serve_head (judge := judgeSetEpoch) (v := taken _) hr hq (kind_setEpoch hc) rfl
  · exact exec_closeConfig (v := taken _) hr hq hc (judgeCloseConfig_config hp)
  · exact exec_closeConfig (v := refuse _ _) hr hq hc (judgeCloseConfig_run hp)
  · exact act_serve_head (judge := judgeEcho) hr hq (kind_echo hc) rfl
  · exact exec_writeMasks (v := taken _) hr hq hc ho (judgeWriteMasks_taken h)
  · exact exec_writeMasks (v := refuse _ _) hr hq hc ho (judgeWriteMasks_refused h)
  · have kind : r.fields.kind = .write := by rw [kind_write hc, ho]; rfl
    exact exec_write (v := refuse _ _) hr hq kind (judgeWriteOther_unknown ho)
  · have readOnly : o.writable = false := by
      rcases hro with rfl | rfl | rfl | rfl | rfl | rfl | rfl <;> rfl
    exact exec_write (v := refuse _ _) hr hq (kind_writeReadOnly hc ho readOnly) (judgeWriteOther_known ho)
  · exact act_serve_head (judge := judgeUnknownCommand) (v := refuse _ _) hr hq (kind_unknownCommand hc) rfl

end Sys2Proof.Machine
end

section
/-! SUPPORT. The operations that leave the epoch unit and EPOCH_SOURCE (spec/08_the_epoch.md, R149, R152, R163): those of the links,
the buffer, the route store, the commit unit, the schedulers and the notice unit, and the requests that write neither. -/

namespace Sys2Proof.Machine

variable (s : State) (l : LinkId) (f : Fields) {t : State}

/-- What the agreement of the epoch unit reads: the unit and EPOCH_SOURCE. -/
def State.timing (s : State) : EpochUnit × Nat := (s.epoch, s.param .epochSource)

/-! ### Shared operations, by their frames -/

theorem latchLink_timing (x : LinkFlag) : (s.latchLink l x).timing = s.timing := by rw [latchLink_frame]; rfl

theorem changeNotice_timing : s.changeNotice.timing = s.timing := by rw [changeNotice_frame]; rfl

theorem gapExpiry_timing : s.gapExpiry.timing = s.timing := by rw [gapExpiry_frame]; rfl

theorem refreshFlow_timing : s.refreshFlow.timing = s.timing := by rw [refreshFlow_frame]; rfl

theorem admitCell_timing (c : ClassId) (cell : Cell) (targets : List Target) :
    (s.admitCell c cell targets).timing = s.timing := by rw [admit_frame]; rfl

theorem removeHead_timing (c : ClassId) (slot : Nat) (rest : List Nat) :
    (s.removeHead l c slot rest).timing = s.timing := by rw [removeHead_frame]; rfl

theorem completeFlush_timing : (s.completeFlush l).timing = s.timing := by rw [completeFlush_frame]; rfl

theorem abandonTraffic_timing (was : LinkState) : (s.abandonTraffic l was).timing = s.timing := by
  rw [abandonTraffic_frame]; rfl

theorem disableNow_timing : (s.disableNow l).timing = s.timing := by rw [disableNow_frame]; rfl

theorem disableDrain_timing : (s.disableDrain l).timing = s.timing := by rw [disableDrain_frame]; rfl

theorem tellQueuesEmpty_timing : (s.tellQueuesEmpty l).timing = s.timing := by rw [tellQueuesEmpty_frame]; rfl

theorem enterFault_timing (cause : FaultCause) : (s.enterFault l cause).timing = s.timing := by rw [enterFault_frame]; rfl

theorem report_timing (r : Report) : (s.report l r).timing = s.timing := by rw [report_frame]; rfl

theorem advancePointer_timing (d : Dcn) : (s.advancePointer d).timing = s.timing := by rw [advancePointer_frame]; rfl

theorem endCommit_timing (r : CommitRequest) (o : CommitOutcome) (e : Half) : (s.endCommit r o e).timing = s.timing := by
  rw [endCommit_frame]; rfl

theorem fire_timing (r : CommitRequest) (e : Half) : (s.fire r e).timing = s.timing := by rw [fire_frame]; rfl

theorem scrubOne_timing : s.scrubOne.timing = s.timing := by rw [scrubOne_frame]; rfl

theorem respond_timing (r : Request) (status : Status) (data : List Byte) : (s.respond r status data).timing = s.timing := by
  rw [respond_frame]; rfl

theorem foldl_timing {α : Type} {op : State → α → State} (h : ∀ t a, (op t a).timing = t.timing) (as : List α) (s : State) :
    (as.foldl op s).timing = s.timing := by
  induction as generalizing s with
  | nil => rfl
  | cons a rest ih => rw [List.foldl_cons, ih, h]

/-! ### Links (R33, R36, R39, R43, R110, R111) -/

theorem lossExpiry_timing : (s.lossExpiry l).timing = s.timing := by
  unfold State.lossExpiry
  dsimp only
  split
  · exact enterFault_timing ..
  · rfl

theorem linkBoundary_timing : (s.linkBoundary l).timing = s.timing := by
  unfold State.linkBoundary
  split <;> rfl

theorem drainAtLimit_timing : (s.drainAtLimit l).timing = s.timing := by
  unfold State.drainAtLimit
  split
  · exact (latchLink_timing ..).trans (abandonTraffic_timing ..)
  · rfl

theorem endHoldDown_timing : (s.endHoldDown l).timing = s.timing := by
  unfold State.endHoldDown
  split
  · dsimp only
    split
    · exact latchLink_timing ..
    · rfl
  · rfl

theorem flushOne_timing : (s.flushOne l).timing = s.timing := by
  unfold State.flushOne
  split
  · split
    · rfl
    · split
      · rfl
      · exact removeHead_timing ..
  · rfl

theorem flushEnd_timing : (s.flushEnd l).timing = s.timing := by
  unfold State.flushEnd
  split
  · exact completeFlush_timing ..
  · rfl

/-! ### The commit unit and the notice unit (R72, R73, R75, R76, R86, R185) -/

theorem walkOne_timing : s.walkOne.timing = s.timing := by
  unfold State.walkOne
  split
  · split <;> rfl
  all_goals rfl

theorem completeWalk_timing : s.completeWalk.timing = s.timing := by
  unfold State.completeWalk
  split
  · exact endCommit_timing ..
  · split_ifs
    · rfl
    · exact fire_timing ..
    · rfl
  all_goals rfl

theorem commitAtBoundary_timing (b : Boundary) : (s.commitAtBoundary b).timing = s.timing := by
  cases h : s.commit.state with
  | idle => rw [commitAtBoundary_idle h]
  | checking q n x =>
    rw [commitAtBoundary_checking h]
    split
    · rfl
    · exact endCommit_timing ..
  | armed q =>
    rw [commitAtBoundary_armed h]
    split_ifs
    · exact endCommit_timing ..
    · exact fire_timing ..
    · rfl
    · exact endCommit_timing ..

theorem commitBoundary_timing : s.commitBoundary.timing = s.timing := by
  have scrubbed (n : Nat) (t : State) : (State.scrubVisits n t).timing = t.timing := by
    induction n generalizing t with
    | zero => rfl
    | succ n ih => rw [State.scrubVisits, ih, scrubOne_timing]
  unfold State.commitBoundary
  split
  · rfl
  · exact (scrubbed ..).trans (commitAtBoundary_timing ..)

theorem noticeBoundary_timing : s.noticeBoundary.timing = s.timing := by
  have offered (t : State) (e : Half) : (t.offerNotice e).timing = t.timing := by
    unfold State.offerNotice
    split
    · rfl
    · split <;> rfl
  unfold State.noticeBoundary
  split
  · rfl
  · exact offered ..

/-! ### Received cells (R17, R18, R62 to R66, R97 to R100, R127, R164) -/

theorem admitUnicast_timing (c : ClassId) (cell : Cell) (target : Target) :
    (s.admitUnicast l c cell target).timing = s.timing := by
  unfold State.admitUnicast
  split
  · rfl
  · exact admitCell_timing ..

theorem admitMulticast_timing (c : ClassId) (cell : Cell) (targets : List Target) :
    (s.admitMulticast l c cell targets).timing = s.timing := by
  have drops (t : State) (refused : List (Target × Refused)) : (t.countDrops refused).timing = t.timing :=
    foldl_timing (op := fun t (r : Target × Refused) => t.countLink r.1 .mcastCopyDrop) (fun _ _ => rfl) refused t
  have wholeLoss (t : State) (refused : List (Target × Refused)) : (t.countWholeLoss l refused).timing = t.timing := by
    unfold State.countWholeLoss
    split <;> rfl
  unfold State.admitMulticast
  dsimp only
  split
  · rw [wholeLoss, drops]
  · rw [drops, admitCell_timing]

theorem takeDataU_timing (cell : Cell) : (s.takeDataU l cell).timing = s.timing := by
  unfold State.takeDataU State.resolveUnicast
  split
  · split
    · rfl
    · rfl
    · rfl
    · split
      · exact (admitUnicast_timing ..).trans (advancePointer_timing ..)
      · rfl
  · rfl

theorem resolveMembers_timing (g : GroupId) : (s.resolveMembers l g).state.timing = s.timing := by
  have member (echo : Bool) (a : Resolving) (d : Dcn) : (resolveMember l echo a d).state.timing = a.state.timing := by
    unfold resolveMember
    split
    · rfl
    · rfl
    · rfl
    · split
      · rfl
      · split
        · exact advancePointer_timing ..
        · rfl
  have members (echo : Bool) (ds : List Dcn) (a : Resolving) :
      (ds.foldl (resolveMember l echo) a).state.timing = a.state.timing := by
    induction ds generalizing a with
    | nil => rfl
    | cons d rest ih => rw [List.foldl_cons, ih, member]
  exact members ..

theorem takeDataM_timing (cell : Cell) : (s.takeDataM l cell).timing = s.timing := by
  unfold State.takeDataM State.resolveMulticast
  split
  · split
    · rfl
    · rfl
    · rfl
    · dsimp only
      split
      · exact resolveMembers_timing ..
      · exact (admitMulticast_timing ..).trans (resolveMembers_timing ..)
  · rfl

theorem takeFlow_timing (cell : Cell) : (s.takeFlow l cell).timing = s.timing := by
  refine foldl_timing (op := fun t c => t.judgeGrant l c (cell.byte c.val)) (fun t c => ?_) allClasses s
  unfold State.judgeGrant
  split
  · rfl
  · exact latchLink_timing ..

theorem takeMgmt_timing (cell : Cell) : (s.takeMgmt l cell).timing = s.timing := by
  unfold State.takeMgmt
  split <;> rfl

theorem notUp_timing : (s.notUp l).timing = s.timing := report_timing ..

theorem takeDamaged_timing : (s.takeDamaged l).timing = s.timing := report_timing ..

theorem takeUnknown_timing : (s.takeUnknown l).timing = s.timing := report_timing ..

theorem takeIdle_timing (cell : Cell) : (s.takeIdle l cell).timing = s.timing := by
  unfold State.takeIdle State.checked
  split <;> exact report_timing ..

/-! ### The transmitters (R103, R135 to R146) -/

theorem sendData_timing (c : ClassId) : (s.sendData l c).timing = s.timing := by
  unfold State.sendData
  split
  · rfl
  · exact (tellQueuesEmpty_timing ..).trans (removeHead_timing ..)

theorem select_timing : (s.select l).timing = s.timing := by
  have roundRobin : (s.sendRoundRobin l).timing = s.timing := by
    unfold State.sendRoundRobin
    dsimp only
    split
    · exact sendData_timing ..
    · rfl
  unfold State.select
  split
  · rfl
  · split
    · rfl
    · split
      · exact sendData_timing ..
      · exact roundRobin

theorem ready_timing : (s.ready l).timing = s.timing := by
  unfold State.ready
  split
  case h_7 | h_8 => exact select_timing ..
  all_goals rfl

/-! ### Requests and records (R24, R25, R37, R38, R45, R53, R71, R81, R168, R172, R176, R179, R195) -/

theorem judgeRead_timing : (judgeRead f s).state.timing = s.timing := by
  unfold judgeRead
  split
  · rfl
  · split <;> rfl

theorem ClearFrame.timing (h : ClearFrame s t) : t.timing = s.timing := by rw [h.rest]; rfl

theorem judgeReadClear_timing : (judgeReadClear f s).state.timing = s.timing := by
  unfold judgeReadClear
  split
  · rfl
  · split
    · rfl
    · split
      · rfl
      · exact (clearFrame_foldl ..).timing

theorem judgeWriteOther_timing : (judgeWriteOther f s).state.timing = s.timing := by
  unfold judgeWriteOther
  split <;> rfl

theorem judgeWritePortMap_timing : (judgeWritePortMap f s).state.timing = s.timing := by
  have stored (i : Nat) (es : List PortMapEntry) : (s.storePortMap i es).timing = s.timing := by
    rw [storePortMap_frame]; rfl
  unfold judgeWritePortMap
  split
  · rfl
  · split
    · rfl
    · split
      · rfl
      · exact stored ..

theorem judgeRouteContents_timing (o : Object) : (judgeRouteContents f s o).state.timing = s.timing := by
  have dests (set : RouteSetId) (i : Nat) (es : List DestContents) : (s.storeDests set i es).timing = s.timing := by
    rw [storeDests_frame]; rfl
  have groups (set : RouteSetId) (es : List GroupContents) (t : State) (i : Nat) :
      (t.storeGroups set i es).timing = t.timing := by
    induction es generalizing t i with
    | nil => rfl
    | cons e rest ih =>
      unfold State.storeGroups
      split
      · exact ih ..
      · rfl
  unfold judgeRouteContents
  split
  · split
    · rfl
    · exact dests ..
  · split
    · rfl
    · exact groups ..
  all_goals rfl

theorem judgeWriteStage_timing : (judgeWriteStage f s).state.timing = s.timing := by
  unfold judgeWriteStage
  split
  · rfl
  · split
    · rfl
    · split
      · rfl
      · exact judgeRouteContents_timing ..

theorem judgeWriteActive_timing : (judgeWriteActive f s).state.timing = s.timing := by
  unfold judgeWriteActive
  split
  · rfl
  · split
    · rfl
    · split
      · rfl
      · exact judgeRouteContents_timing ..

theorem judgeWriteMasks_timing : (judgeWriteMasks f s).state.timing = s.timing := by
  unfold judgeWriteMasks
  split <;> rfl

theorem judgeCommit_timing : (judgeCommit f s).state.timing = s.timing := by
  unfold judgeCommit
  split_ifs <;> rfl

theorem judgeCommitNow_timing : (judgeCommitNow f s).state.timing = s.timing := by
  unfold judgeCommitNow
  split_ifs <;> rfl

theorem judgeCancelCommit_timing : (judgeCancelCommit f s).state.timing = s.timing := by
  unfold judgeCancelCommit
  split
  · rfl
  · exact endCommit_timing ..

theorem judgeLinkEnable_timing : (judgeLinkEnable f s).state.timing = s.timing := by
  unfold judgeLinkEnable
  split
  · rfl
  · split <;> rfl

theorem judgeLinkDisableNow_timing : (judgeLinkDisableNow f s).state.timing = s.timing := by
  unfold judgeLinkDisableNow
  split
  · rfl
  · split
    · exact disableNow_timing ..
    · rfl

theorem judgeLinkDisableDrain_timing : (judgeLinkDisableDrain f s).state.timing = s.timing := by
  unfold judgeLinkDisableDrain
  split
  · rfl
  · exact disableDrain_timing ..

theorem judgeLinkTest_timing : (judgeLinkTest f s).state.timing = s.timing := by
  unfold judgeLinkTest
  split
  · rfl
  · split <;> rfl

theorem judgeCloseConfig_timing : (judgeCloseConfig f s).state.timing = s.timing := by
  unfold judgeCloseConfig
  split <;> rfl

/-- R163: soft reset leaves the epoch unit. -/
theorem serveSoftReset_timing : s.serveSoftReset.timing = s.timing := by
  unfold State.serveSoftReset
  split
  · rfl
  · split <;> rfl

theorem judgeEnableRecord_timing : (judgeEnableRecord f s).state.timing = s.timing := by
  unfold judgeEnableRecord
  split
  · rfl
  · split <;> rfl

theorem judgeDisableRecord_timing : (judgeDisableRecord f s).state.timing = s.timing := by
  unfold judgeDisableRecord
  split
  · rfl
  · split <;> rfl

theorem countRecord_timing (status : Status) : (s.countRecord status).timing = s.timing := by
  unfold State.countRecord
  split <;> rfl

end Sys2Proof.Machine
end

section
/-! SUPPORT. The epoch unit in agreement with EPOCH_SOURCE (Sys2Proof/Safety.lean; spec/08_the_epoch.md, R149, R150, R156, R158): what
each event of the unit makes of it. -/

namespace Sys2Proof.Machine

variable {e : EpochUnit} {source n : Nat} {sync : SyncState}

/-- R155 to R157: the miss runs that a sync state allows. -/
def SyncState.AllowsMisses (x : SyncState) (n : Nat) : Prop :=
  match x with
  | .free | .acquiring | .locked => n = 0
  | .holdover => 1 ≤ n ∧ n ≤ 3
  | .lost => n = 4

/-- The epoch unit agrees with the EPOCH_SOURCE in force. -/
structure EpochUnit.Sound (source : Nat) (e : EpochUnit) : Prop where
  free : e.sync = .free ↔ source = 0
  misses : e.sync.AllowsMisses e.missRun
  period : 8 ≤ e.period
  tol : 4 * e.tol ≤ e.period
  monitor : e.monitor ≠ .low → source = 1 ∧ e.pinHigh = true

theorem epochSound_iff {s : State} : s.EpochSound ↔ s.epoch.Sound (s.param .epochSource) :=
  ⟨fun ⟨free, misses, period, tol, monitor⟩ => ⟨free, misses, period, tol, monitor⟩,
    fun ⟨free, misses, period, tol, monitor⟩ => ⟨free, misses, period, tol, monitor⟩⟩

/-! ### Boundaries (R149, R152, R155 to R157) -/

/-- R149: P is 8 microseconds or more, and the tolerance in force a quarter of it or less. -/
theorem writtenInterval_bounds (s : State) : 8 ≤ s.periodWritten ∧ 4 * s.tolWritten ≤ s.periodWritten := by
  unfold State.tolWritten State.periodWritten
  omega

/-- A boundary gives the unit a miss run that its new sync state allows, and leaves FREE to FREE. -/
theorem EpochUnit.Sound.atBoundary {period tol : Nat} (h : e.Sound source) (carried : Option Half)
    (hsync : sync = .free ↔ e.sync = .free) (hm : sync.AllowsMisses n) (hp : 8 ≤ period) (ht : 4 * tol ≤ period) :
    (e.atBoundary carried sync n period tol).Sound source :=
  ⟨hsync.trans h.free, hm, hp, ht, h.monitor⟩

/-- R156: a unit in LOCKED or HOLDOVER has missed 3 times in a row at most. -/
theorem EpochUnit.Sound.misses_le (h : e.Sound source) (hx : e.sync = .locked ∨ e.sync = .holdover) : e.missRun ≤ 3 := by
  have misses := h.misses
  rcases hx with hx | hx <;> rw [hx] at misses
  · exact misses.trans_le (Nat.zero_le 3)
  · exact misses.2

theorem ne_free_of_following (hx : e.sync = .locked ∨ e.sync = .holdover) : e.sync ≠ .free := by
  intro h
  rcases hx with hx | hx <;> exact SyncState.noConfusion (hx.symm.trans h)

theorem ne_free_of_waiting (hx : e.sync = .acquiring ∨ e.sync = .lost) : e.sync ≠ .free := by
  intro h
  rcases hx with hx | hx <;> exact SyncState.noConfusion (hx.symm.trans h)

/-! ### The pin and the timers (R154, R158) -/

/-- What moves neither the sync state, the interval nor the pin. -/
theorem EpochUnit.Sound.of_unmoved (h : e.Sound source) (window : Nat) (pending : Option Half) (out : Option Nat) :
    ({ e with window := window, pending := pending, out := out } : EpochUnit).Sound source :=
  ⟨h.free, h.misses, h.period, h.tol, h.monitor⟩

theorem EpochUnit.Sound.rises (h : e.Sound source) : ({ e with pinHigh := true } : EpochUnit).Sound source :=
  ⟨h.free, h.misses, h.period, h.tol, fun hm => ⟨(h.monitor hm).1, rfl⟩⟩

theorem EpochUnit.Sound.pinFalls (h : e.Sound source) : e.pinFalls.Sound source :=
  ⟨h.free, h.misses, h.period, h.tol, fun hm => absurd rfl hm⟩

/-- The monitor moves while the pin is high under source PIN. -/
theorem EpochUnit.Sound.monitors (h : e.Sound source) (hs : source = 1 ∧ e.pinHigh = true) (x : PinMonitor) :
    ({ e with monitor := x } : EpochUnit).Sound source :=
  ⟨h.free, h.misses, h.period, h.tol, fun _ => hs⟩

theorem EpochUnit.Sound.monitorTicks (h : e.Sound source) : ({ e with monitor := e.monitor.tick } : EpochUnit).Sound source := by
  refine ⟨h.free, h.misses, h.period, h.tol, fun hm => h.monitor fun low => hm ?_⟩
  rw [low]; rfl

/-! ### Writes and resets (R150, R158, R162) -/

theorem EpochUnit.Sound.sourceWritten (h : e.Sound source) (written : Nat) : (e.sourceWritten written).Sound written where
  free := by
    show syncOfSource written = .free ↔ _
    unfold syncOfSource
    split <;> simp [*]
  misses := by
    show (syncOfSource written).AllowsMisses 0
    unfold syncOfSource
    split <;> rfl
  period := h.period
  tol := h.tol
  monitor := by
    show e.freshMonitor written ≠ .low → _
    unfold EpochUnit.freshMonitor
    split
    · exact fun _ => ‹_›
    · exact fun hm => absurd rfl hm

/-- R150: a write of SYNC_LINK under source LINK. -/
theorem EpochUnit.Sound.acquires (h : e.Sound source) (hs : source ≠ 0) :
    ({ e with sync := .acquiring, missRun := 0 } : EpochUnit).Sound source :=
  ⟨⟨SyncState.noConfusion, fun h0 => absurd h0 hs⟩, rfl, h.period, h.tol, h.monitor⟩

theorem sound_epochReset (pinHigh : Bool) : (EpochUnit.reset pinHigh).Sound 0 :=
  ⟨⟨fun _ => rfl, fun _ => rfl⟩, rfl, by simp [EpochUnit.reset], by simp [EpochUnit.reset], fun hm => absurd rfl hm⟩

end Sys2Proof.Machine
end

section
/-! SUPPORT. Every step keeps the epoch unit in agreement with EPOCH_SOURCE (Sys2Proof/Safety.lean; spec/08_the_epoch.md, R149, R150,
R156, R158). -/

namespace Sys2Proof.Machine

variable {s t u : State} {l : LinkId} {f : Fields} {carried : Option Half} {elapsed : Nat}

/-- From `s` to `t` the epoch unit stays in agreement with EPOCH_SOURCE. -/
structure EpochKept (s t : State) : Prop where
  sound : s.epoch.Sound (s.param .epochSource) → t.epoch.Sound (t.param .epochSource)

theorem EpochKept.refl (s : State) : EpochKept s s := ⟨id⟩

theorem EpochKept.trans (h : EpochKept s t) (k : EpochKept t u) : EpochKept s u := ⟨k.sound ∘ h.sound⟩

theorem EpochKept.of_eq (h : t.timing = s.timing) : EpochKept s t := by
  obtain ⟨epoch, source⟩ := Prod.mk.inj h
  exact ⟨fun hs => by rw [epoch, source]; exact hs⟩

/-- Only the epoch unit moves of what the agreement reads. -/
theorem epochKept_modEpoch {g : EpochUnit → EpochUnit}
    (h : s.epoch.Sound (s.param .epochSource) → (g s.epoch).Sound (s.param .epochSource)) : EpochKept s (s.modEpoch g) := ⟨h⟩

/-! ### Boundaries and external epochs (R151, R155 to R157, R159) -/

theorem epochKept_boundary {sync : SyncState} {missRun : Nat} {lost : Bool} (hsync : sync = .free ↔ s.epoch.sync = .free)
    (hm : s.epoch.Sound (s.param .epochSource) → sync.AllowsMisses missRun) :
    EpochKept s (s.boundary carried sync missRun lost) := by
  obtain ⟨hp, ht⟩ := writtenInterval_bounds s
  rw [boundary_frame]
  exact ⟨fun h => h.atBoundary carried hsync (hm h) hp ht⟩

/-- A boundary in a unit that follows an outside beat, or waits for one. -/
theorem epochKept_outside {sync : SyncState} {missRun : Nat} {lost : Bool} (hs : s.epoch.sync ≠ .free) (hsync : sync ≠ .free)
    (hm : sync.AllowsMisses missRun) : EpochKept s (s.boundary carried sync missRun lost) :=
  epochKept_boundary ⟨fun h => absurd h hsync, fun h => absurd h hs⟩ fun _ => hm

/-- A boundary that an external epoch makes. -/
theorem epochKept_locked (h : s.epoch.sync ≠ .free) : EpochKept s (s.boundary carried .locked 0 false) :=
  epochKept_outside h SyncState.noConfusion rfl

theorem epochKept_judged (h : s.epoch.sync = .locked ∨ s.epoch.sync = .holdover) :
    EpochKept s (s.externalEpoch carried elapsed) := by
  have read : EpochKept s (s.atReading elapsed) := epochKept_modEpoch fun h => h.of_unmoved _ s.epoch.pending s.epoch.out
  rw [externalEpoch_judged h]
  split
  · exact read.trans (.of_eq rfl)
  · exact read.trans (epochKept_locked (ne_free_of_following h))

theorem epochKept_externalEpoch (s : State) (carried : Option Half) (elapsed : Nat) :
    EpochKept s (s.externalEpoch carried elapsed) := by
  have atOnce (h : s.epoch.sync = .acquiring ∨ s.epoch.sync = .lost) : EpochKept s (s.externalEpoch carried elapsed) := by
    rw [externalEpoch_atOnce h]
    exact epochKept_locked (ne_free_of_waiting h)
  cases h : s.epoch.sync with
  | free => rw [externalEpoch_free h]; exact .refl s
  | acquiring => exact atOnce (.inl h)
  | lost => exact atOnce (.inr h)
  | locked => exact epochKept_judged (.inl h)
  | holdover => exact epochKept_judged (.inr h)

theorem epochKept_timerBoundary (s : State) : EpochKept s s.timerBoundary := by
  unfold State.timerBoundary
  split
  case h_4 | h_5 => exact .refl s
  all_goals exact epochKept_boundary Iff.rfl fun h => h.misses

/-- R156: a miss in LOCKED or HOLDOVER. -/
theorem epochKept_missed (h : s.epoch.sync = .locked ∨ s.epoch.sync = .holdover) : EpochKept s s.holdoverBoundary := by
  refine ⟨fun hs => ?_⟩
  have few := hs.misses_le h
  have free : s.epoch.sync ≠ .free := ne_free_of_following h
  have counted : EpochKept s ((s.countElement .epochMissedCount).latch .epochMissed) := .of_eq rfl
  have latched : EpochKept s (((s.countElement .epochMissedCount).latch .epochMissed).latch .epochLost) := .of_eq rfl
  rcases Nat.lt_or_eq_of_le few with lt | three
  · have misses : SyncState.AllowsMisses .holdover (s.epoch.missRun + 1) := ⟨Nat.succ_pos _, lt⟩
    rw [holdoverBoundary_missed h lt]
    exact (counted.trans (epochKept_outside free SyncState.noConfusion misses)).sound hs
  · have misses : SyncState.AllowsMisses .lost 4 := rfl
    rw [holdoverBoundary_lost h three]
    exact (latched.trans (epochKept_outside free SyncState.noConfusion misses)).sound hs

theorem epochKept_holdoverBoundary (s : State) : EpochKept s s.holdoverBoundary := by
  cases h : s.epoch.sync with
  | locked => exact epochKept_missed (.inl h)
  | holdover => exact epochKept_missed (.inr h)
  | free | acquiring | lost => rw [State.holdoverBoundary, h]; exact .refl s

theorem epochKept_takeSync (s : State) (l : LinkId) (value : Half) (elapsed : Nat) : EpochKept s (s.takeSync l value elapsed) := by
  unfold State.takeSync
  split_ifs
  · exact .of_eq rfl
  · exact epochKept_externalEpoch ..
  · exact .refl s

/-! ### The pin (R158) -/

/-- An external epoch moves neither the pin's level nor EPOCH_SOURCE. -/
theorem externalEpoch_pin (s : State) (carried : Option Half) (elapsed : Nat) :
    (s.externalEpoch carried elapsed).epoch.pinHigh = s.epoch.pinHigh ∧
      (s.externalEpoch carried elapsed).param .epochSource = s.param .epochSource := by
  have boundary (t : State) : (t.boundary carried .locked 0 false).epoch.pinHigh = t.epoch.pinHigh ∧
      (t.boundary carried .locked 0 false).param .epochSource = t.param .epochSource := by
    rw [boundary_frame]; exact ⟨rfl, rfl⟩
  unfold State.externalEpoch
  split
  · exact ⟨rfl, rfl⟩
  · exact boundary s
  · exact boundary s
  all_goals
    dsimp only
    split
    · exact ⟨rfl, rfl⟩
    · exact boundary _

theorem epochKept_pinRises (s : State) (elapsed : Nat) : EpochKept s (s.pinRises elapsed) := by
  have rises : EpochKept s (s.modEpoch fun e => { e with pinHigh := true }) := epochKept_modEpoch fun h => h.rises
  by_cases h : s.epoch.pinHigh = true
  · rw [pinRises_high h]; exact .refl s
  · rw [pinRises_low (Bool.eq_false_iff.2 h)]
    split <;> rename_i hs
    · obtain ⟨pin, source⟩ := externalEpoch_pin (s.modEpoch fun e => { e with pinHigh := true }) none elapsed
      exact (rises.trans (epochKept_externalEpoch ..)).trans
        (epochKept_modEpoch fun h => h.monitors ⟨source.trans hs.1, pin⟩ _)
    · exact rises

theorem epochKept_stuckExpiry (s : State) : EpochKept s s.stuckExpiry := by
  unfold State.stuckExpiry
  split <;> rename_i hm
  · exact ⟨fun h => h.monitors (h.monitor (by rw [hm]; exact PinMonitor.noConfusion)) _⟩
  all_goals exact .refl s

/-! ### Writes of the configuration (R149, R150, R158, R173) -/

theorem applyConfig_param (s : State) (f : Fields) (p : Params) (k : Param) : (s.applyConfig f p).param k = paramValue p k := by
  rw [applyConfig_frame]
  exact flagsFollowed_param s f p k

/-- A write that covers EPOCH_SOURCE gives the sync state afresh; another leaves the source as it was. -/
theorem epochKept_applyConfig {p : Params} (h : storeParams s.agent.params f.index.toNat f.configValues = some p) :
    EpochKept s (s.applyConfig f p) := by
  refine ⟨fun hs => ?_⟩
  rw [applyConfig_param]
  cases covered : f.covers .epochSource with
  | true =>
    rw [applyConfig_source s p covered]
    exact hs.sourceWritten _
  | false =>
    have kept : paramValue p .epochSource = s.param .epochSource := paramValue_of_not_covers h covered
    rw [applyConfig_sourceKept s p covered, kept]
    split <;> rename_i two
    · exact hs.acquires (by rw [two.2]; decide)
    · exact hs

theorem epochKept_judgeWriteConfig (f : Fields) (s : State) : EpochKept s (judgeWriteConfig f s).state := by
  unfold judgeWriteConfig
  split
  · exact .refl s
  · split
    · exact .refl s
    · split <;> rename_i h
      · exact .refl s
      · split
        · exact epochKept_applyConfig h
        · exact .refl s

/-- R160: a pending value is no part of the agreement. -/
theorem epochKept_judgeSetEpoch (f : Fields) (s : State) : EpochKept s (judgeSetEpoch f s).state :=
  ⟨fun h => h.of_unmoved s.epoch.window (some f.index) s.epoch.out⟩

/-! ### Resets and the boot loader (R162, R191 to R197) -/

/-- R162: the reset values agree, whatever stood before. -/
theorem epochKept_elementReset (s : State) (bootSel : Bool) (id : BitVec 6) : EpochKept s (s.elementReset bootSel id) := by
  have values : (s.elementReset bootSel id).timing = (EpochUnit.reset s.epoch.pinHigh, 0) := by cases bootSel <;> rfl
  obtain ⟨epoch, source⟩ := Prod.mk.inj values
  exact ⟨fun _ => by rw [epoch, source]; exact sound_epochReset _⟩

theorem epochKept_holdReset (s : State) : EpochKept s s.holdReset :=
  ⟨fun h => h.of_unmoved s.epoch.window s.epoch.pending none⟩

/-- R197: the withdrawal writes EPOCH_SOURCE INTERNAL. -/
theorem epochKept_bootFailure (s : State) (cause : BootCause) : EpochKept s (s.bootFailure cause) := by
  rw [bootFailure_frame]
  exact ⟨fun h => h.sourceWritten 0⟩

theorem epochKept_judgeWrite (f : Fields) (s : State) : EpochKept s (judgeWrite f s).state := by
  unfold judgeWrite
  split
  · exact epochKept_judgeWriteConfig f s
  · exact .of_eq (judgeWritePortMap_timing ..)
  · exact .of_eq (judgeWriteStage_timing ..)
  · exact .of_eq (judgeWriteActive_timing ..)
  · exact .of_eq (judgeWriteMasks_timing ..)
  all_goals exact .of_eq (judgeWriteOther_timing ..)

theorem epochKept_applyRecord (s : State) (f : Fields) (len : Nat) : EpochKept s (s.applyRecord f len) := by
  have judged : EpochKept s (judgeRecord f s).state := by
    unfold judgeRecord
    split
    · exact epochKept_judgeWrite f s
    · exact .of_eq (judgeEnableRecord_timing ..)
    · exact .of_eq (judgeDisableRecord_timing ..)
    · exact .of_eq (judgeCloseConfig_timing ..)
    all_goals exact .refl s
  exact judged.trans (.of_eq (countRecord_timing ..))

theorem epochKept_applyRecords (n : Nat) (s : State) : EpochKept s (State.applyRecords n s) := by
  induction n generalizing s with
  | zero => exact .refl s
  | succ n ih =>
    unfold State.applyRecords
    dsimp only
    split
    · exact .of_eq rfl
    · split
      · exact epochKept_bootFailure ..
      · split
        · exact .refl s
        · split
          · exact epochKept_bootFailure ..
          · split
            · exact epochKept_bootFailure ..
            · split
              · exact .refl s
              · exact (epochKept_applyRecord ..).trans (ih _)

theorem epochKept_passOne (s : State) : EpochKept s s.passOne := by
  unfold State.passOne
  dsimp only
  split_ifs
  · exact .refl s
  · exact epochKept_bootFailure ..
  · exact .refl s
  · exact epochKept_bootFailure ..
  · exact epochKept_bootFailure ..
  · exact .of_eq rfl

theorem epochKept_modBoot (s : State) (g : BootLoader → BootLoader) : EpochKept s (s.modBoot g) := .of_eq rfl

theorem epochKept_endTransfer (s : State) (r : BusResult) : EpochKept s (s.endTransfer r) := by
  unfold State.endTransfer
  split
  · cases r with
    | success bytes =>
      unfold State.takeBytes
      dsimp only
      split
      · exact (epochKept_modBoot ..).trans (epochKept_passOne _)
      · exact (epochKept_modBoot ..).trans (epochKept_applyRecords ..)
      all_goals exact .refl s
    | noAck => exact epochKept_bootFailure ..
    | arbitrationLost =>
      unfold State.loseArbitration
      dsimp only
      split
      · exact (epochKept_modBoot ..).trans (epochKept_bootFailure ..)
      · exact epochKept_modBoot ..
  · exact .refl s

/-! ### Commands -/

/-- A command's step keeps the epoch unit in agreement. -/
def KeepsEpoch (c : State → Host.Outcome State Fault Refusal) : Prop := ∀ s t, c s = .next t → EpochKept s t

theorem keepsEpoch_next {g : State → State} (h : ∀ s, EpochKept s (g s)) : KeepsEpoch fun s => .next (g s) := by
  rintro s t e
  obtain rfl := Host.Outcome.next.inj e
  exact h s

theorem keepsEpoch_act {g : State → State} (h : ∀ s, EpochKept s (g s)) : KeepsEpoch (act g) := by
  refine keepsEpoch_next fun s => ?_
  split
  · exact .refl s
  · exact h s

/-- A command that leaves the epoch unit and EPOCH_SOURCE. -/
theorem keepsEpoch_of_eq {g : State → State} (h : ∀ s, (g s).timing = s.timing) : KeepsEpoch (act g) :=
  keepsEpoch_act fun s => .of_eq (h s)

theorem keepsEpoch_serve {kind : ServiceKind} {judge : Fields → State → Served}
    (h : ∀ f u, EpochKept u (judge f u).state) : KeepsEpoch (act (serve kind judge)) := by
  refine keepsEpoch_act fun s => ?_
  unfold serve
  split
  · exact .refl s
  next r rest _ =>
    have dropped : EpochKept s (s.dropRequest rest) := .of_eq rfl
    split
    · exact dropped.trans ((h r.fields _).trans (.of_eq (respond_timing ..)))
    · exact .refl s

theorem keepsEpoch_serve_of_eq {kind : ServiceKind} {judge : Fields → State → Served}
    (h : ∀ u f, (judge f u).state.timing = u.timing) : KeepsEpoch (act (serve kind judge)) :=
  keepsEpoch_serve fun f u => .of_eq (h u f)

/-- A received cell, by the state of its link (R16). -/
theorem keepsEpoch_receive {b : Bool} {onTest onQualify onService : State → State} (ht : ∀ s, (onTest s).timing = s.timing)
    (hq : ∀ s, (onQualify s).timing = s.timing) (hs : ∀ s, EpochKept s (onService s)) :
    KeepsEpoch (act fun s => if b then s.receive l onTest onQualify onService else s) := by
  refine keepsEpoch_act fun s => ?_
  have counted : EpochKept s (s.countLink l .rxCells) := .of_eq rfl
  split
  · unfold State.receive
    split
    · exact .of_eq (ht s)
    · exact counted.trans (.of_eq (hq _))
    · exact counted.trans (hs _)
    · exact counted.trans (hs _)
    all_goals exact .refl s
  · exact .refl s

/-- A received cell that is no external epoch. -/
theorem keepsEpoch_receive_of_eq {b : Bool} {onTest onQualify onService : State → State}
    (ht : ∀ s, (onTest s).timing = s.timing) (hq : ∀ s, (onQualify s).timing = s.timing)
    (hs : ∀ s, (onService s).timing = s.timing) :
    KeepsEpoch (act fun s => if b then s.receive l onTest onQualify onService else s) :=
  keepsEpoch_receive ht hq fun s => .of_eq (hs s)

theorem EpochKept.report (h : EpochKept s t) (l : LinkId) (r : Report) : EpochKept s (t.report l r) :=
  h.trans (.of_eq (report_timing ..))

theorem report_timing_eq {r : Report} (h : t.timing = s.timing) : (t.report l r).timing = s.timing := (report_timing ..).trans h

theorem epochKept_checked {cell : Cell} {k : State → State} (h : EpochKept s (k s)) : EpochKept s (s.checked l cell k) := by
  unfold State.checked
  split
  · exact h
  · exact .of_eq (report_timing ..)

theorem keepsEpoch_transmitReady (l : LinkId) : KeepsEpoch (execTransmitReady l) := by
  refine keepsEpoch_next fun s => .of_eq ?_
  split
  · rfl
  · exact ready_timing s l

/-- The pin's level follows a rising edge in reset as well. -/
theorem keepsEpoch_epochInRisingEdge (elapsed : Nat) : KeepsEpoch (execEpochInRisingEdge elapsed) := by
  refine keepsEpoch_next fun s => ?_
  split
  · exact epochKept_modEpoch fun h => h.rises
  · exact epochKept_pinRises s elapsed

theorem keepsEpoch_exec (i : Instr) : KeepsEpoch (exec i) := by
  cases i with
  | elementReset bootSel id => exact keepsEpoch_next (epochKept_elementReset · bootSel id)
  | resetNLow => exact keepsEpoch_next epochKept_holdReset
  | dataUReceived l cell =>
    exact keepsEpoch_receive_of_eq (fun _ => rfl) (notUp_timing · l) fun s => report_timing_eq (takeDataU_timing s l cell)
  | dataMReceived l cell =>
    exact keepsEpoch_receive_of_eq (fun _ => rfl) (notUp_timing · l) fun s => report_timing_eq (takeDataM_timing s l cell)
  | flowReceived l cell =>
    exact keepsEpoch_receive (fun _ => rfl) (notUp_timing · l) fun s =>
      epochKept_checked (.of_eq (report_timing_eq (takeFlow_timing s l cell)))
  | mgmtReceived l cell =>
    exact keepsEpoch_receive (fun _ => rfl) (notUp_timing · l) fun s =>
      epochKept_checked (.of_eq (report_timing_eq (takeMgmt_timing s l cell)))
  | syncReceived l cell elapsed =>
    exact keepsEpoch_receive (fun _ => rfl) (notUp_timing · l) fun s =>
      epochKept_checked ((epochKept_takeSync s l _ elapsed).report l .other)
  | idleReceived l cell =>
    exact keepsEpoch_receive_of_eq (fun _ => rfl) (takeIdle_timing · l cell) (takeIdle_timing · l cell)
  | markerReceived l cell =>
    exact keepsEpoch_receive_of_eq (fun _ => rfl) (report_timing · l .marker) (report_timing · l .marker)
  | testReceived l cell => exact keepsEpoch_receive_of_eq (fun _ => rfl) (notUp_timing · l) (report_timing · l .other)
  | damagedCellReceived l cell =>
    exact keepsEpoch_receive_of_eq (fun _ => rfl) (takeDamaged_timing · l) (takeDamaged_timing · l)
  | unknownTypeReceived l cell =>
    exact keepsEpoch_receive_of_eq (fun _ => rfl) (takeUnknown_timing · l) (takeUnknown_timing · l)
  | lossTimerExpiry l => exact keepsEpoch_of_eq (lossExpiry_timing · l)
  | gapTimerExpiry => exact keepsEpoch_of_eq gapExpiry_timing
  | timerBoundary => exact keepsEpoch_act epochKept_timerBoundary
  | holdoverBoundary => exact keepsEpoch_act epochKept_holdoverBoundary
  | epochInRisingEdge elapsed => exact keepsEpoch_epochInRisingEdge elapsed
  | epochInFallingEdge => exact keepsEpoch_next fun s => epochKept_modEpoch fun h => h.pinFalls
  | stuckTimerExpiry => exact keepsEpoch_act epochKept_stuckExpiry
  | epochOutFall =>
    exact keepsEpoch_act fun s => epochKept_modEpoch fun h => h.of_unmoved s.epoch.window s.epoch.pending none
  | linkBoundaryWork l => exact keepsEpoch_of_eq (linkBoundary_timing · l)
  | drainLimit l => exact keepsEpoch_of_eq (drainAtLimit_timing · l)
  | holdDownEnd l => exact keepsEpoch_of_eq (endHoldDown_timing · l)
  | commitBoundary => exact keepsEpoch_of_eq commitBoundary_timing
  | refresh => exact keepsEpoch_of_eq refreshFlow_timing
  | noticeBoundary => exact keepsEpoch_of_eq noticeBoundary_timing
  | walkExamination => exact keepsEpoch_of_eq walkOne_timing
  | checkCompletion => exact keepsEpoch_of_eq completeWalk_timing
  | flushRemoval l => exact keepsEpoch_of_eq (flushOne_timing · l)
  | flushCompletion l => exact keepsEpoch_of_eq (flushEnd_timing · l)
  | transmitReady l => exact keepsEpoch_transmitReady l
  | read => exact keepsEpoch_serve_of_eq judgeRead_timing
  | readClear => exact keepsEpoch_serve_of_eq judgeReadClear_timing
  | write => exact keepsEpoch_serve_of_eq judgeWriteOther_timing
  | writeConfig => exact keepsEpoch_serve epochKept_judgeWriteConfig
  | writePortMap => exact keepsEpoch_serve_of_eq judgeWritePortMap_timing
  | writeStage => exact keepsEpoch_serve_of_eq judgeWriteStage_timing
  | writeActive => exact keepsEpoch_serve_of_eq judgeWriteActive_timing
  | writeMasks => exact keepsEpoch_serve_of_eq judgeWriteMasks_timing
  | commit => exact keepsEpoch_serve_of_eq judgeCommit_timing
  | commitNow => exact keepsEpoch_serve_of_eq judgeCommitNow_timing
  | cancelCommit => exact keepsEpoch_serve_of_eq judgeCancelCommit_timing
  | linkEnable => exact keepsEpoch_serve_of_eq judgeLinkEnable_timing
  | linkDisableNow => exact keepsEpoch_serve_of_eq judgeLinkDisableNow_timing
  | linkDisableDrain => exact keepsEpoch_serve_of_eq judgeLinkDisableDrain_timing
  | linkTest => exact keepsEpoch_serve_of_eq judgeLinkTest_timing
  | setEpoch => exact keepsEpoch_serve epochKept_judgeSetEpoch
  | closeConfig => exact keepsEpoch_serve_of_eq judgeCloseConfig_timing
  | echo | unknownCommand => exact keepsEpoch_serve_of_eq fun _ _ => rfl
  | softReset => exact keepsEpoch_of_eq serveSoftReset_timing
  | busTransferEnd r => exact keepsEpoch_act (epochKept_endTransfer · r)
  | storageUpset | transferRepeat | signalLost | signalRestored | alignmentGained | alignmentLost | blankTimerExpiry | flapClear =>
    exact keepsEpoch_of_eq fun _ => rfl

/-! ### Steps -/

/-- A microsecond moves the window timer, the stuck timer and the pulse on EPOCH_OUT. -/
theorem epochKept_tick (s : State) : EpochKept s s.tick :=
  ⟨fun h => h.monitorTicks.of_unmoved (s.epoch.window + 1) s.epoch.pending (tickTimer s.epoch.out)⟩

theorem epochKept_step (h : step s = .next t) : EpochKept s t := by
  unfold step at h
  split at h
  · unfold idleStep at h
    split at h
    · exact keepsEpoch_next EpochKept.refl s t h
    · split at h
      · exact keepsEpoch_exec _ s t h
      · exact keepsEpoch_next epochKept_tick s t h
  next i waiting _ =>
    have waits : EpochKept s { s with pending := waiting } := .of_eq rfl
    exact waits.trans (keepsEpoch_exec i _ t h)

/-- Settles O59: a boundary gives a miss run that its sync state allows, a write of EPOCH_SOURCE its sync state and monitor, and
every other operation leaves what `EpochUnit.Sound` reads. -/
theorem stepsKeepTheEpochSound : Obligations.StepsKeepTheEpochSound :=
  fun _ _ hs h => epochSound_iff.2 ((epochKept_step h).sound (epochSound_iff.1 hs))

end Sys2Proof.Machine
end

section
/-! SUPPORT. A MGMT cell taken by the request queue, or discarded (spec/09_management_requests.md, R164, R165). -/

namespace Sys2Proof.Machine

variable {s : State} {l : LinkId} {cell : Cell}

/-! ### The cases of R164 in their order -/

theorem discardReason_notAllowed (h : (s.port l).map.mgmtAllowed = false) : s.discardReason l cell = some .notAllowed := by
  rw [State.discardReason, h]; rfl

section
variable (ha : (s.port l).map.mgmtAllowed = true)
include ha

theorem discardReason_notTarget (h : cell.byte 0 ≠ s.identityByte) (hall : cell.byte 0 ≠ 255) :
    s.discardReason l cell = some .notTarget := by
  rw [State.discardReason, ha, if_neg (by decide), if_pos ⟨h, hall⟩]

theorem discardReason_target (h : cell.byte 0 = s.identityByte ∨ cell.byte 0 = 255) :
    s.discardReason l cell = if Config.requestBound ≤ s.agent.requests.length then some .queueFull else none := by
  have target : ¬(cell.byte 0 ≠ s.identityByte ∧ cell.byte 0 ≠ 255) := fun ⟨hid, hall⟩ => h.elim hid hall
  rw [State.discardReason, ha, if_neg (by decide), if_neg target]

end

/-! ### What a request comes to (R164, R165) -/

theorem takeMgmt_discarded {why : DiscardReason} (h : s.discardReason l cell = some why) : s.takeMgmt l cell =
    (({ s with agent := { s.agent with lastDiscard := some (why, l) } } : State).countElement .mgmtDiscards).latch
      .mgmtDiscard := by
  simp only [State.takeMgmt, h]

theorem takeMgmt_accepted (h : s.discardReason l cell = none) : s.takeMgmt l cell =
    { s with agent := { s.agent with requests := s.agent.requests ++ [requestOf l cell] } } := by
  simp only [State.takeMgmt, h]

/-- R164: the body of a request is the first 62 bytes of the payload. -/
theorem requestOf_eq {body : Vector Byte 62} (h : body.toList = cell.payload.toList.take 62) :
    requestOf l cell = { link := l, body := body, context := cell.header.context } := by
  have length : 62 ≤ cell.payload.toList.length := by rw [Vector.length_toList]; omega
  have bytes : bytesVec 62 cell.payload.toList = body := Vector.toList_inj.1 <|
    calc (bytesVec 62 cell.payload.toList).toList
      _ = padTo 62 cell.payload.toList := rfl
      _ = cell.payload.toList.take 62 := List.take_append_of_le_length length
      _ = body.toList := h.symm
  rw [requestOf, bytes]

/-- R16, R19: a MGMT cell with good checks on a link in service goes to the agent. -/
theorem exec_mgmtReceived_checked (hr : s.inReset = false) (hs : (s.port l).unit.state = .up ∨ (s.port l).unit.state = .draining)
    (hh : cell.headerOk = true) (ht : cell.header.type = 4) (hp : cell.payloadOk = true) :
    exec (.mgmtReceived l cell) s = .next (((s.countLink l .rxCells).takeMgmt l cell).report l .other) := by
  rw [exec_mgmtReceived l cell hr, if_pos (Cell.isA_of (t := .mgmt) hh ht), receive_service hs, checked_passed hp]

/-- Settles O39: the cases of R164 in the state that has counted the cell, whose agent, Port Map and identity are those of `s`. -/
theorem requestAcceptance : Obligations.RequestAcceptance := by
  intro s l cell s' discarded hr hs hh ht hp hs' hd
  have map : (s'.port l).map = (s.port l).map := by rw [hs', countLink_map]
  have agent : s'.agent = s.agent := by rw [hs', countLink_agent]
  have identity : s'.identityByte = s.agent.identity.setWidth 8 := by rw [State.identityByte, agent]
  have received : exec (.mgmtReceived l cell) s = .next ((s'.takeMgmt l cell).report l .other) := by
    rw [hs', exec_mgmtReceived_checked hr hs hh ht hp]
  have discard {why : DiscardReason} (h : s'.discardReason l cell = some why) :
      exec (.mgmtReceived l cell) s = .next (discarded why) := by
    rw [received, takeMgmt_discarded h, hd]
  rw [← map, ← identity, ← agent]
  refine ⟨fun ha => discard (discardReason_notAllowed ha), fun ha hid hall => discard (discardReason_notTarget ha hid hall),
    fun ha htarget hfull => discard ((discardReason_target ha htarget).trans (if_pos hfull)),
    fun ha htarget hroom body hbody => ?_⟩
  have accepted : s'.discardReason l cell = none := (discardReason_target ha htarget).trans (if_neg (Nat.not_le.2 hroom))
  rw [received, takeMgmt_accepted accepted, requestOf_eq hbody]

end Sys2Proof.Machine
end

section
/-! SUPPORT. Pass two of the boot loader (spec/11_start_up_and_boot_image.md, R195): the records that the bytes complete, how one is
judged and counted, and DONE. -/

namespace Sys2Proof.Machine

variable {s u : State} {f : Fields} {l : LinkId} {o : Object} {n len : Nat}

/-! ### Bytes in pass two (R195, R196) -/

theorem exec_busTransferEnd_applying {bytes : List Byte} (hr : s.inReset = false) (hb : s.boot.bus = .transferring)
    (ha : s.boot.state = .applying) (h1 : 1 ≤ bytes.length) (h32 : bytes.length ≤ 32) :
    exec (.busTransferEnd (.success bytes)) s =
      .next (s.modBoot fun b => { b with image := b.image ++ bytes, arbRun := 0 }).passTwo := by
  have possible : (BusResult.success bytes).possible = true := by simp [BusResult.possible, h1, h32]
  refine (act_run _ hr : execBusTransferEnd (.success bytes) s = _).trans (congrArg _ ?_)
  simp only [State.endTransfer, hb, possible, and_self, if_true, State.takeBytes, ha]

/-! ### The next record (R193, R195) -/

theorem applyRecords_last (h : s.boot.recordCount ≤ s.boot.recordIndex) : State.applyRecords (n + 1) s = s.bootDone := by
  rw [State.applyRecords, if_pos h]

section
variable (hi : s.boot.recordIndex < s.boot.recordCount)
include hi

/-- Fewer than 6 bytes are left for the record. -/
theorem applyRecords_noHeader (h : s.boot.length - 4 < s.boot.offset + 6) :
    State.applyRecords (n + 1) s = s.bootFailure .badHeader := by
  rw [State.applyRecords, if_neg (Nat.not_le.2 hi)]
  exact if_pos h

variable (hs : s.boot.offset + 6 ≤ s.boot.length - 4)
include hs

theorem applyRecords_awaitsHeader (h : s.boot.image.length < s.boot.offset + 6) : State.applyRecords (n + 1) s = s := by
  rw [State.applyRecords, if_neg (Nat.not_le.2 hi)]
  dsimp only
  rw [if_neg (Nat.not_lt.2 hs), if_pos h]

variable (hh : s.boot.offset + 6 ≤ s.boot.image.length)
include hh

theorem applyRecords_badCommand (h : (recordHeader s.boot.image s.boot.offset).recordLength = none) :
    State.applyRecords (n + 1) s = s.bootFailure .badHeader := by
  rw [State.applyRecords, if_neg (Nat.not_le.2 hi)]
  dsimp only
  rw [if_neg (Nat.not_lt.2 hs), if_neg (Nat.not_lt.2 hh)]
  simp only [h]

/-- A record of `len` bytes: past the end of the records, not yet complete, or applied. -/
theorem applyRecords_record (hf : f = recordHeader s.boot.image s.boot.offset) (h : f.recordLength = some len) :
    State.applyRecords (n + 1) s =
      if s.boot.length - 4 < s.boot.offset + len then s.bootFailure .badHeader
      else if s.boot.image.length < s.boot.offset + len then s
      else State.applyRecords n (s.applyRecord { f with data := f.data.take (len - 6) } len) := by
  subst hf
  rw [State.applyRecords, if_neg (Nat.not_le.2 hi)]
  dsimp only
  rw [if_neg (Nat.not_lt.2 hs), if_neg (Nat.not_lt.2 hh)]
  simp only [h]

end

/-! ### A record counted (R195) -/

section
variable {v : Served} (hv : v = judgeRecord f s)
include hv

theorem applyRecord_taken (h : v.status = .ok) : s.applyRecord f len = { v.state with boot := { v.state.boot with
    offset := v.state.boot.offset + len, taken := v.state.boot.taken + 1, recordIndex := v.state.boot.recordIndex + 1 } } := by
  subst hv
  exact if_pos h

theorem applyRecord_refused (h : v.status ≠ .ok) :
    s.applyRecord f len = { v.state.latch .bootRecordError with boot := { v.state.boot with
      offset := v.state.boot.offset + len, refused := v.state.boot.refused + 1, recordIndex := v.state.boot.recordIndex + 1,
      firstBad := if v.state.boot.firstBad = none then some (v.state.boot.recordIndex, v.status)
        else v.state.boot.firstBad } } := by
  subst hv
  refine (if_neg h).trans ?_
  cases hb : (judgeRecord f s).state.boot.firstBad <;> simp [State.modBoot, State.latch, hb]

end

/-! ### A record judged, by its COMMAND (R193, R195) -/

theorem judgeRecord_write (h : f.command = 0x02) : judgeRecord f s = judgeWrite f s := by rw [judgeRecord, h]; rfl

theorem judgeRecord_enable (h : f.command = 0x20) : judgeRecord f s = judgeEnableRecord f s := by rw [judgeRecord, h]; rfl

theorem judgeRecord_disable (h : f.command = 0x21) : judgeRecord f s = judgeDisableRecord f s := by rw [judgeRecord, h]; rfl

theorem judgeRecord_closeConfig (h : f.command = 0x40) : judgeRecord f s = judgeCloseConfig f s := by
  rw [judgeRecord, h]; rfl

theorem judgeEnableRecord_none (h : f.link = none) : judgeEnableRecord f s = refuse s .badIndex := by
  simp only [judgeEnableRecord, h]

theorem judgeDisableRecord_none (h : f.link = none) : judgeDisableRecord f s = refuse s .badIndex := by
  simp only [judgeDisableRecord, h]

theorem judgeEnableRecord_some (h : f.link = some l) : judgeEnableRecord f s =
    if (s.port l).enableMark then refuse s .busy else taken (s.modPort l fun p => { p with enableMark := true }) := by
  simp only [judgeEnableRecord, h]

theorem judgeDisableRecord_some (h : f.link = some l) : judgeDisableRecord f s =
    if f.arg = 0 ∨ f.arg = 1 then taken (s.modPort l fun p => { p with enableMark := false }) else refuse s .badValue := by
  simp only [judgeDisableRecord, h]

/-! ### A WRITE record, by its OBJECT (R195) -/

section
variable (hc : f.command = 0x02)
include hc

theorem judgeRecord_config (ho : objectOf f.object = some .config) : judgeRecord f s = judgeWriteConfig f s := by
  simp only [judgeRecord_write hc, judgeWrite, ho, writeKind]

theorem judgeRecord_portMap (ho : objectOf f.object = some .portMap) : judgeRecord f s = judgeWritePortMap f s := by
  simp only [judgeRecord_write hc, judgeWrite, ho, writeKind]

theorem judgeRecord_route {set : RouteSetId} (ho : objectOf f.object = some o) (hset : o = .dest set ∨ o = .group set) :
    judgeRecord f s = if set = .active then judgeWriteActive f s else judgeWriteStage f s :=
  (judgeRecord_write hc).trans (judgeWrite_route ho hset)

theorem judgeRecord_masks (ho : objectOf f.object = some .masks) : judgeRecord f s = judgeWriteMasks f s := by
  simp only [judgeRecord_write hc, judgeWrite, ho, writeKind]

theorem judgeRecord_other (ho : objectOf f.object = some o) (hw : o.writable = false) :
    judgeRecord f s = judgeWriteOther f s := by
  have row : writeKind (objectOf f.object) = .write := (kind_write hc).symm.trans (kind_writeReadOnly hc ho hw)
  simp only [judgeRecord_write hc, judgeWrite, row]

end

/-- R169: the row that serves a WRITE judges it as the boot loader does. -/
theorem act_serve_write {r : Request} {rest : List Request} {v : Served} {kind : ServiceKind} {judge : Fields → State → Served}
    (hr : s.inReset = false) (hq : s.agent.requests = r :: rest) (hu : u = s.dropRequest rest) (hc : r.fields.command = 0x02)
    (hv : v = judgeRecord r.fields u) (hk : writeKind (objectOf r.fields.object) = kind)
    (hj : judgeRecord r.fields u = judge r.fields u) :
    act (serve kind judge) s = .next (v.state.respond r v.status v.data) := by
  subst hu
  exact act_serve_head hr hq ((kind_write hc).trans hk) (hj.symm.trans hv.symm)

/-- R169: the row of a WRITE answers as the judgement of the same record comes to. -/
theorem exec_writeCommand {r : Request} {rest : List Request} {v : Served} (hr : s.inReset = false)
    (hq : s.agent.requests = r :: rest) (hu : u = s.dropRequest rest) (hc : r.fields.command = 0x02)
    (ho : objectOf r.fields.object = some o) (hv : v = judgeRecord r.fields u) :
    exec (writeKind (some o)).command s = .next (v.state.respond r v.status v.data) := by
  have row {kind : ServiceKind} {judge : Fields → State → Served} (hk : writeKind (some o) = kind)
      (hj : judgeRecord r.fields u = judge r.fields u) :
      act (serve kind judge) s = .next (v.state.respond r v.status v.data) :=
    act_serve_write hr hq hu hc hv (ho ▸ hk) hj
  cases o with
  | config => exact row rfl (judgeRecord_config hc ho)
  | portMap => exact row rfl (judgeRecord_portMap hc ho)
  | masks => exact row rfl (judgeRecord_masks hc ho)
  | dest set =>
    have judged := judgeRecord_route (s := u) hc ho (.inl rfl)
    cases set <;> exact row rfl judged
  | group set =>
    have judged := judgeRecord_route (s := u) hc ho (.inr rfl)
    cases set <;> exact row rfl judged
  | _ => exact row rfl (judgeRecord_other hc ho rfl)

/-! ### DONE (R195) -/

theorem bootDone_port (s : State) (l : LinkId) : s.bootDone.port l = (s.port l).bootDone s.blankDuration := port_mapPorts ..

theorem port_bootDone_unmarked {p : Port} {duration : Nat} (h : p.enableMark = false) : p.bootDone duration = p := by
  rw [Port.bootDone, h]; rfl

theorem port_bootDone_marked {p : Port} {duration : Nat} (h : p.enableMark = true) :
    p.bootDone duration = { p.toBlank duration with enableMark := false } := if_pos h

/-- Settles O51: the next record by what the bytes hold of it, its judgement by COMMAND and OBJECT, and DONE link by link. -/
theorem bootRecords : Obligations.BootRecords := by
  refine ⟨fun s bytes hr hb ha h1 h32 => exec_busTransferEnd_applying hr hb ha h1 h32, fun s n b f hb hf => ?_,
    fun s f len v t hv ht => ?_, fun s u r rest v o c hr hq hu hc ho hv hrow => ?_, fun _ _ => ⟨rfl, rfl⟩,
    fun s f => ⟨fun hc => ⟨judgeRecord_config hc, judgeRecord_portMap hc, judgeRecord_masks hc, fun set ho => ?_,
      fun o ho hro => ?_⟩,
      fun hc => ?_, fun hc hi => ?_, fun l hl => ⟨fun hc => ?_, fun hc => ?_⟩⟩,
    fun s t ht => ?_⟩
  · subst hb
    refine ⟨applyRecords_last, applyRecords_noHeader, fun hi hs => ⟨applyRecords_awaitsHeader hi hs,
      fun hh => ⟨fun h => applyRecords_badCommand hi hs hh (hf ▸ h), fun len h => ?_⟩⟩⟩
    rw [applyRecords_record hi hs hh hf h]
    exact ⟨fun past => if_pos past, fun within waits => (if_neg (Nat.not_lt.2 within)).trans (if_pos waits),
      fun within complete => (if_neg (Nat.not_lt.2 within)).trans (if_neg (Nat.not_lt.2 complete))⟩
  · subst ht
    exact ⟨applyRecord_taken hv, applyRecord_refused hv⟩
  · have row : c = (writeKind (some o)).command := by
      rw [hrow]
      cases o with
      | dest set | group set => cases set <;> rfl
      | _ => rfl
    rw [row, exec_writeCommand hr hq hu hc ho hv]
  · exact ho.elim (judgeRecord_route hc · (.inl rfl)) (judgeRecord_route hc · (.inr rfl))
  · have readOnly : o.writable = false := by
      rcases hro with rfl | rfl | rfl | rfl | rfl | rfl | rfl <;> rfl
    rw [judgeRecord_other hc ho readOnly, judgeWriteOther_known ho]
  · rw [judgeRecord_closeConfig hc]
    exact ⟨judgeCloseConfig_config, judgeCloseConfig_run⟩
  · rcases hc with hc | hc
    · rw [judgeRecord_enable hc, judgeEnableRecord_none (link_none hi)]
    · rw [judgeRecord_disable hc, judgeDisableRecord_none (link_none hi)]
  · rw [judgeRecord_enable hc, judgeEnableRecord_some (link_some hl)]
    exact ⟨fun clear => if_neg (Bool.eq_false_iff.1 clear), fun set => if_pos set⟩
  · rw [judgeRecord_disable hc, judgeDisableRecord_some (link_some hl)]
    exact ⟨fun mode => if_pos mode, fun h0 h1 => if_neg fun mode => mode.elim h0 h1⟩
  · subst ht
    refine ⟨rfl, fun l => ?_⟩
    rw [bootDone_port]
    exact ⟨port_bootDone_unmarked, port_bootDone_marked⟩

end Sys2Proof.Machine
end

section
/-! SUPPORT. The operations that leave the queue of commands, the hold of RESET_N, the identity and the sample of BOOT_SEL
(spec/09_management_requests.md, R164; spec/11_start_up_and_boot_image.md, R191): all but those of the two rows of the reset. -/

namespace Sys2Proof.Machine

variable (s : State) (l : LinkId) (f : Fields)

/-- What no command outside the reset moves: the queue of commands, the hold of RESET_N, the identity and the sample of BOOT_SEL. -/
def State.standing (s : State) : List Instr × Bool × BitVec 6 × Bool := (s.pending, s.inReset, s.agent.identity, s.boot.bootSel)

/-! ### One block changed -/

@[simp] theorem modPort_standing (g : Port → Port) : (s.modPort l g).standing = s.standing := rfl

@[simp] theorem modUnit_standing (g : LinkUnit → LinkUnit) : (s.modUnit l g).standing = s.standing := rfl

@[simp] theorem enterBlank_standing : (s.enterBlank l).standing = s.standing := rfl

@[simp] theorem countLink_standing (k : LinkCounter) : (s.countLink l k).standing = s.standing := rfl

@[simp] theorem countElement_standing (k : ElementCounter) : (s.countElement k).standing = s.standing := rfl

@[simp] theorem hand_standing (x : Option Cell) : (s.hand l x).standing = s.standing := rfl

@[simp] theorem latch_standing (x : ElementFlag) : (s.latch x).standing = s.standing := rfl

@[simp] theorem modRoutes_standing (g : RouteStore → RouteStore) : (s.modRoutes g).standing = s.standing := rfl

@[simp] theorem markDest_standing (d : Dcn) : (s.markDest d).standing = s.standing := rfl

@[simp] theorem markGroup_standing (g : GroupId) : (s.markGroup g).standing = s.standing := rfl

@[simp] theorem modCommit_standing (g : CommitUnit → CommitUnit) : (s.modCommit g).standing = s.standing := rfl

@[simp] theorem modEpoch_standing (g : EpochUnit → EpochUnit) : (s.modEpoch g).standing = s.standing := rfl

@[simp] theorem dropRequest_standing (rest : List Request) : (s.dropRequest rest).standing = s.standing := rfl

/-- The loader moves and keeps its sample of BOOT_SEL. -/
@[simp] theorem modBoot_standing {g : BootLoader → BootLoader} (h : (g s.boot).bootSel = s.boot.bootSel) :
    (s.modBoot g).standing = s.standing := by
  rw [State.standing, modBoot_boot, h]; rfl

theorem foldl_standing {α : Type} {op : State → α → State} (h : ∀ t a, (op t a).standing = t.standing) (as : List α)
    (s : State) : (as.foldl op s).standing = s.standing := by
  induction as generalizing s with
  | nil => rfl
  | cons a rest ih => rw [List.foldl_cons, ih, h]

/-! ### Shared operations, by their frames -/

@[simp] theorem latchLink_standing (x : LinkFlag) : (s.latchLink l x).standing = s.standing := by rw [latchLink_frame]; rfl

@[simp] theorem gapExpiry_standing : s.gapExpiry.standing = s.standing := by rw [gapExpiry_frame]; rfl

@[simp] theorem refreshFlow_standing : s.refreshFlow.standing = s.standing := by rw [refreshFlow_frame]; rfl

@[simp] theorem admitCell_standing (c : ClassId) (cell : Cell) (targets : List Target) :
    (s.admitCell c cell targets).standing = s.standing := by rw [admit_frame]; rfl

@[simp] theorem removeHead_standing (c : ClassId) (slot : Nat) (rest : List Nat) :
    (s.removeHead l c slot rest).standing = s.standing := by rw [removeHead_frame]; rfl

@[simp] theorem completeFlush_standing : (s.completeFlush l).standing = s.standing := by rw [completeFlush_frame]; rfl

@[simp] theorem abandonTraffic_standing (was : LinkState) : (s.abandonTraffic l was).standing = s.standing := by
  rw [abandonTraffic_frame]; rfl

@[simp] theorem disableNow_standing : (s.disableNow l).standing = s.standing := by rw [disableNow_frame]; rfl

@[simp] theorem disableDrain_standing : (s.disableDrain l).standing = s.standing := by rw [disableDrain_frame]; rfl

@[simp] theorem tellQueuesEmpty_standing : (s.tellQueuesEmpty l).standing = s.standing := by rw [tellQueuesEmpty_frame]; rfl

@[simp] theorem enterFault_standing (cause : FaultCause) : (s.enterFault l cause).standing = s.standing := by
  rw [enterFault_frame]; rfl

@[simp] theorem report_standing (r : Report) : (s.report l r).standing = s.standing := by rw [report_frame]; rfl

@[simp] theorem advancePointer_standing (d : Dcn) : (s.advancePointer d).standing = s.standing := by
  rw [advancePointer_frame]; rfl

@[simp] theorem endCommit_standing (r : CommitRequest) (o : CommitOutcome) (e : Half) :
    (s.endCommit r o e).standing = s.standing := by rw [endCommit_frame]; rfl

@[simp] theorem fire_standing (r : CommitRequest) (e : Half) : (s.fire r e).standing = s.standing := by rw [fire_frame]; rfl

@[simp] theorem scrubOne_standing : s.scrubOne.standing = s.standing := by rw [scrubOne_frame]; rfl

@[simp] theorem boundary_standing (carried : Option Half) (sync : SyncState) (missRun : Nat) (lost : Bool) :
    (s.boundary carried sync missRun lost).standing = s.standing := by rw [boundary_frame]; rfl

@[simp] theorem respond_standing (r : Request) (status : Status) (data : List Byte) :
    (s.respond r status data).standing = s.standing := by rw [respond_frame]; rfl

@[simp] theorem applyConfig_standing (p : Params) : (s.applyConfig f p).standing = s.standing := by
  rw [applyConfig_frame, flagsFollowed_frame]; rfl

@[simp] theorem storePortMap_standing (i : Nat) (es : List PortMapEntry) : (s.storePortMap i es).standing = s.standing := by
  rw [storePortMap_frame]; rfl

@[simp] theorem storeDests_standing (set : RouteSetId) (i : Nat) (es : List DestContents) :
    (s.storeDests set i es).standing = s.standing := by rw [storeDests_frame]; rfl

@[simp] theorem clearEntries_standing (o : Object) : (s.clearEntries f o).standing = s.standing := by
  have frame : ClearFrame s (s.clearEntries f o) := clearFrame_foldl ..
  rw [frame.rest]; rfl

@[simp] theorem bootFailure_standing (cause : BootCause) : (s.bootFailure cause).standing = s.standing := by
  unfold State.standing
  rw [bootFailure_frame]
  rfl

/-! ### Links (R33, R39, R43, R110, R111) -/

theorem lossExpiry_standing : (s.lossExpiry l).standing = s.standing := by
  unfold State.lossExpiry
  dsimp only
  split <;> simp

theorem linkBoundary_standing : (s.linkBoundary l).standing = s.standing := by
  unfold State.linkBoundary
  split <;> simp

theorem drainAtLimit_standing : (s.drainAtLimit l).standing = s.standing := by
  unfold State.drainAtLimit
  split <;> simp

theorem endHoldDown_standing : (s.endHoldDown l).standing = s.standing := by
  unfold State.endHoldDown
  dsimp only
  split_ifs <;> simp

theorem flushOne_standing : (s.flushOne l).standing = s.standing := by
  unfold State.flushOne
  repeat' split
  all_goals simp

theorem flushEnd_standing : (s.flushEnd l).standing = s.standing := by
  unfold State.flushEnd
  split <;> simp

/-! ### The commit unit and the notice unit (R72, R73, R75, R76, R86, R185) -/

theorem walkOne_standing : s.walkOne.standing = s.standing := by
  unfold State.walkOne
  repeat' split
  all_goals simp

theorem completeWalk_standing : s.completeWalk.standing = s.standing := by
  unfold State.completeWalk
  repeat' split
  all_goals simp

theorem commitBoundary_standing : s.commitBoundary.standing = s.standing := by
  have committed (t : State) (b : Boundary) : (t.commitAtBoundary b).standing = t.standing := by
    unfold State.commitAtBoundary
    repeat' split
    all_goals simp
  have scrubbed (n : Nat) (t : State) : (State.scrubVisits n t).standing = t.standing := by
    induction n generalizing t with
    | zero => rfl
    | succ n ih => rw [State.scrubVisits, ih, scrubOne_standing]
  unfold State.commitBoundary
  split
  · rfl
  · rw [scrubbed, committed, modCommit_standing]

theorem noticeBoundary_standing : s.noticeBoundary.standing = s.standing := by
  have offered (t : State) (e : Half) : (t.offerNotice e).standing = t.standing := by
    unfold State.offerNotice
    repeat' split
    all_goals rfl
  unfold State.noticeBoundary
  split
  · rfl
  · exact offered ..

/-! ### Epochs and the pin (R151, R155 to R158) -/

@[simp] theorem externalEpoch_standing (carried : Option Half) (elapsed : Nat) :
    (s.externalEpoch carried elapsed).standing = s.standing := by
  unfold State.externalEpoch
  dsimp only
  repeat' split
  all_goals simp

theorem timerBoundary_standing : s.timerBoundary.standing = s.standing := by
  unfold State.timerBoundary
  split <;> simp

theorem holdoverBoundary_standing : s.holdoverBoundary.standing = s.standing := by
  unfold State.holdoverBoundary
  dsimp only
  repeat' split
  all_goals simp

theorem pinRises_standing (elapsed : Nat) : (s.pinRises elapsed).standing = s.standing := by
  unfold State.pinRises
  dsimp only
  split_ifs <;> simp

theorem stuckExpiry_standing : s.stuckExpiry.standing = s.standing := by
  unfold State.stuckExpiry
  split <;> simp

/-! ### Received cells (R62 to R66, R97 to R100, R127, R159, R164) -/

@[simp] theorem admitUnicast_standing (c : ClassId) (cell : Cell) (target : Target) :
    (s.admitUnicast l c cell target).standing = s.standing := by
  unfold State.admitUnicast
  split <;> simp

@[simp] theorem admitMulticast_standing (c : ClassId) (cell : Cell) (targets : List Target) :
    (s.admitMulticast l c cell targets).standing = s.standing := by
  have drops (t : State) (refused : List (Target × Refused)) : (t.countDrops refused).standing = t.standing :=
    foldl_standing (op := fun t (r : Target × Refused) => t.countLink r.1 .mcastCopyDrop) (fun _ _ => rfl) refused t
  have wholeLoss (t : State) (refused : List (Target × Refused)) : (t.countWholeLoss l refused).standing = t.standing := by
    unfold State.countWholeLoss
    split <;> rfl
  unfold State.admitMulticast
  dsimp only
  split
  · rw [wholeLoss, drops]
  · rw [drops, admitCell_standing]

@[simp] theorem resolveMembers_standing (g : GroupId) : (s.resolveMembers l g).state.standing = s.standing := by
  have member (echo : Bool) (a : Resolving) (d : Dcn) : (resolveMember l echo a d).state.standing = a.state.standing := by
    unfold resolveMember
    repeat' split
    all_goals simp
  have members (echo : Bool) (ds : List Dcn) (a : Resolving) :
      (ds.foldl (resolveMember l echo) a).state.standing = a.state.standing := by
    induction ds generalizing a with
    | nil => rfl
    | cons d rest ih => rw [List.foldl_cons, ih, member]
  exact members ..

@[simp] theorem takeDataU_standing (cell : Cell) : (s.takeDataU l cell).standing = s.standing := by
  unfold State.takeDataU State.resolveUnicast
  repeat' split
  all_goals simp

@[simp] theorem takeDataM_standing (cell : Cell) : (s.takeDataM l cell).standing = s.standing := by
  unfold State.takeDataM State.resolveMulticast
  dsimp only
  repeat' split
  all_goals simp

@[simp] theorem takeFlow_standing (cell : Cell) : (s.takeFlow l cell).standing = s.standing := by
  refine foldl_standing (op := fun t c => t.judgeGrant l c (cell.byte c.val)) (fun t c => ?_) allClasses s
  unfold State.judgeGrant
  split <;> simp

@[simp] theorem takeMgmt_standing (cell : Cell) : (s.takeMgmt l cell).standing = s.standing := by
  unfold State.takeMgmt
  split <;> rfl

@[simp] theorem takeSync_standing (value : Half) (elapsed : Nat) : (s.takeSync l value elapsed).standing = s.standing := by
  unfold State.takeSync
  split_ifs <;> simp

theorem checked_standing {cell : Cell} {k : State → State} (h : (k s).standing = s.standing) :
    (s.checked l cell k).standing = s.standing := by
  unfold State.checked
  split
  · exact h
  · simp

theorem notUp_standing : (s.notUp l).standing = s.standing := report_standing ..

theorem takeIdle_standing (cell : Cell) : (s.takeIdle l cell).standing = s.standing := checked_standing s l (report_standing ..)

theorem takeDamaged_standing : (s.takeDamaged l).standing = s.standing := report_standing ..

theorem takeUnknown_standing : (s.takeUnknown l).standing = s.standing := report_standing ..

/-- R16: a received cell, by the state of its link. -/
theorem receive_standing {onTest onQualify onService : State → State} (ht : (onTest s).standing = s.standing)
    (hq : ∀ t, (onQualify t).standing = t.standing) (hs : ∀ t, (onService t).standing = t.standing) :
    (s.receive l onTest onQualify onService).standing = s.standing := by
  unfold State.receive
  split
  · exact ht
  · exact hq _
  · exact hs _
  · exact hs _
  all_goals rfl

/-! ### The transmitters (R103, R135 to R146) -/

@[simp] theorem sendData_standing (c : ClassId) : (s.sendData l c).standing = s.standing := by
  unfold State.sendData
  split <;> simp

@[simp] theorem select_standing : (s.select l).standing = s.standing := by
  have roundRobin : (s.sendRoundRobin l).standing = s.standing := by
    unfold State.sendRoundRobin
    dsimp only
    split <;> simp
  unfold State.select State.sendFlow State.sendControl
  repeat' split
  all_goals simp [roundRobin]

theorem ready_standing : (s.ready l).standing = s.standing := by
  unfold State.ready State.sendTest
  split <;> simp

/-! ### Requests (R169 to R173, R179) -/

@[simp] theorem refuse_standing (status : Status) : (refuse s status).state.standing = s.standing := rfl

@[simp] theorem taken_standing : (taken s).state.standing = s.standing := rfl

theorem judgeRead_standing : (judgeRead f s).state.standing = s.standing := by
  unfold judgeRead
  repeat' split
  all_goals simp

theorem judgeReadClear_standing : (judgeReadClear f s).state.standing = s.standing := by
  unfold judgeReadClear
  repeat' split
  all_goals simp

theorem judgeWriteOther_standing : (judgeWriteOther f s).state.standing = s.standing := by
  unfold judgeWriteOther
  split <;> simp

theorem judgeWriteConfig_standing : (judgeWriteConfig f s).state.standing = s.standing := by
  unfold judgeWriteConfig
  repeat' split
  all_goals simp

theorem judgeWritePortMap_standing : (judgeWritePortMap f s).state.standing = s.standing := by
  unfold judgeWritePortMap
  repeat' split
  all_goals simp

@[simp] theorem judgeRouteContents_standing (o : Object) : (judgeRouteContents f s o).state.standing = s.standing := by
  have groups (set : RouteSetId) (es : List GroupContents) (t : State) (i : Nat) :
      (t.storeGroups set i es).standing = t.standing := by
    induction es generalizing t i with
    | nil => rfl
    | cons e rest ih =>
      unfold State.storeGroups
      split
      · exact ih ..
      · rfl
  unfold judgeRouteContents
  repeat' split
  all_goals simp [groups]

theorem judgeWriteStage_standing : (judgeWriteStage f s).state.standing = s.standing := by
  unfold judgeWriteStage
  repeat' split
  all_goals simp

theorem judgeWriteActive_standing : (judgeWriteActive f s).state.standing = s.standing := by
  unfold judgeWriteActive
  repeat' split
  all_goals simp

theorem judgeWriteMasks_standing : (judgeWriteMasks f s).state.standing = s.standing := by
  unfold judgeWriteMasks
  split <;> rfl

theorem judgeCommit_standing : (judgeCommit f s).state.standing = s.standing := by
  unfold judgeCommit
  split_ifs <;> rfl

theorem judgeCommitNow_standing : (judgeCommitNow f s).state.standing = s.standing := by
  unfold judgeCommitNow
  split <;> rfl

theorem judgeCancelCommit_standing : (judgeCancelCommit f s).state.standing = s.standing := by
  unfold judgeCancelCommit
  split <;> simp

theorem judgeLinkEnable_standing : (judgeLinkEnable f s).state.standing = s.standing := by
  unfold judgeLinkEnable
  repeat' split
  all_goals simp

theorem judgeLinkDisableNow_standing : (judgeLinkDisableNow f s).state.standing = s.standing := by
  unfold judgeLinkDisableNow
  repeat' split
  all_goals simp

theorem judgeLinkDisableDrain_standing : (judgeLinkDisableDrain f s).state.standing = s.standing := by
  unfold judgeLinkDisableDrain
  split <;> simp

theorem judgeLinkTest_standing : (judgeLinkTest f s).state.standing = s.standing := by
  unfold judgeLinkTest
  repeat' split
  all_goals simp

theorem judgeCloseConfig_standing : (judgeCloseConfig f s).state.standing = s.standing := by
  unfold judgeCloseConfig
  split <;> rfl

/-- R166: the service of the head of the queue leaves what its judgement leaves. -/
theorem serve_standing {kind : ServiceKind} {judge : Fields → State → Served}
    (h : ∀ t f, (judge f t).state.standing = t.standing) : (serve kind judge s).standing = s.standing := by
  unfold serve
  split
  · rfl
  · split
    · rw [respond_standing, h, dropRequest_standing]
    · rfl

theorem serveSoftReset_standing : s.serveSoftReset.standing = s.standing := by
  unfold State.serveSoftReset
  repeat' split
  all_goals rfl

/-! ### The boot loader (R194 to R196) -/

@[simp] theorem bootDone_standing : s.bootDone.standing = s.standing := rfl

@[simp] theorem applyRecord_standing (len : Nat) : (s.applyRecord f len).standing = s.standing := by
  have written : (judgeWrite f s).state.standing = s.standing := by
    unfold judgeWrite
    split
    · exact judgeWriteConfig_standing s f
    · exact judgeWritePortMap_standing s f
    · exact judgeWriteStage_standing s f
    · exact judgeWriteActive_standing s f
    · exact judgeWriteMasks_standing s f
    all_goals exact judgeWriteOther_standing s f
  have judged : (judgeRecord f s).state.standing = s.standing := by
    unfold judgeRecord judgeEnableRecord judgeDisableRecord
    repeat' split
    all_goals simp [written, judgeCloseConfig_standing]
  have counted (t : State) (status : Status) : (t.countRecord status).standing = t.standing := by
    unfold State.countRecord
    split <;> rfl
  exact (counted ..).trans judged

theorem applyRecords_standing (n : Nat) : (State.applyRecords n s).standing = s.standing := by
  induction n generalizing s with
  | zero => rfl
  | succ n ih =>
    unfold State.applyRecords
    dsimp only
    repeat' split
    all_goals simp [ih]

theorem endTransfer_standing (r : BusResult) : (s.endTransfer r).standing = s.standing := by
  have one (t : State) : t.passOne.standing = t.standing := by
    unfold State.passOne
    dsimp only
    split_ifs <;> simp
  have bytes (b : List Byte) : (s.takeBytes b).standing = s.standing := by
    unfold State.takeBytes
    dsimp only
    split
    · exact one _
    · exact applyRecords_standing ..
    all_goals rfl
  have lost : s.loseArbitration.standing = s.standing := by
    unfold State.loseArbitration
    dsimp only
    split <;> simp
  unfold State.endTransfer
  split
  · cases r with
    | success b => exact bytes b
    | noAck => exact bootFailure_standing ..
    | arbitrationLost => exact lost
  · rfl

theorem repeatTransfer_standing : (s.modBoot BootLoader.repeatTransfer).standing = s.standing :=
  modBoot_standing s (by unfold BootLoader.repeatTransfer; split <;> rfl)

end Sys2Proof.Machine
end

section
/-! SUPPORT. Every command answers a next state (spec/09_management_requests.md, R164; spec/11_start_up_and_boot_image.md, R191). -/

namespace Sys2Proof.Machine

variable {l : LinkId}

/-- A command answers a next state, and leaves what no command outside the reset moves. -/
def Stands (x : State → Host.Outcome State Fault Refusal) : Prop := ∀ s, ∃ t, x s = .next t ∧ t.standing = s.standing

theorem stands_next {g : State → State} (h : ∀ s, (g s).standing = s.standing) : Stands fun s => .next (g s) :=
  fun s => ⟨g s, rfl, h s⟩

theorem stands_act {g : State → State} (h : ∀ s, (g s).standing = s.standing) : Stands (act g) := by
  refine stands_next fun s => ?_
  split
  · rfl
  · exact h s

theorem stands_serve {kind : ServiceKind} {judge : Fields → State → Served}
    (h : ∀ t f, (judge f t).state.standing = t.standing) : Stands (act (serve kind judge)) := stands_act (serve_standing · h)

theorem stands_receive {b : Bool} {onTest onQualify onService : State → State} (ht : ∀ s, (onTest s).standing = s.standing)
    (hq : ∀ s, (onQualify s).standing = s.standing) (hs : ∀ s, (onService s).standing = s.standing) :
    Stands (act fun s => if b then s.receive l onTest onQualify onService else s) := by
  refine stands_act fun s => ?_
  split
  · exact receive_standing s l (ht s) hq hs
  · rfl

/-- A consumer of the cell, and the report that follows it (R20). -/
theorem report_standing_eq {s t : State} {r : Report} (h : t.standing = s.standing) : (t.report l r).standing = s.standing :=
  (report_standing ..).trans h

/-- Every command but those of the reset. -/
theorem stands_exec (c : Instr) (hreset : ∀ bootSel id, c ≠ .elementReset bootSel id) (hlow : c ≠ .resetNLow) :
    Stands (exec c) := by
  cases c with
  | elementReset bootSel id => exact absurd rfl (hreset bootSel id)
  | resetNLow => exact absurd rfl hlow
  | dataUReceived l cell =>
    exact stands_receive (fun _ => rfl) (notUp_standing · l) fun s => report_standing_eq (takeDataU_standing s l cell)
  | dataMReceived l cell =>
    exact stands_receive (fun _ => rfl) (notUp_standing · l) fun s => report_standing_eq (takeDataM_standing s l cell)
  | flowReceived l cell =>
    exact stands_receive (fun _ => rfl) (notUp_standing · l) fun s =>
      checked_standing s l (report_standing_eq (takeFlow_standing s l cell))
  | mgmtReceived l cell =>
    exact stands_receive (fun _ => rfl) (notUp_standing · l) fun s =>
      checked_standing s l (report_standing_eq (takeMgmt_standing s l cell))
  | syncReceived l cell elapsed =>
    exact stands_receive (fun _ => rfl) (notUp_standing · l) fun s =>
      checked_standing s l (report_standing_eq (takeSync_standing s l _ elapsed))
  | idleReceived l cell => exact stands_receive (fun _ => rfl) (takeIdle_standing · l cell) (takeIdle_standing · l cell)
  | markerReceived l cell => exact stands_receive (fun _ => rfl) (report_standing · l .marker) (report_standing · l .marker)
  | testReceived l cell => exact stands_receive (fun _ => rfl) (notUp_standing · l) (report_standing · l .other)
  | damagedCellReceived l cell => exact stands_receive (fun _ => rfl) (takeDamaged_standing · l) (takeDamaged_standing · l)
  | unknownTypeReceived l cell => exact stands_receive (fun _ => rfl) (takeUnknown_standing · l) (takeUnknown_standing · l)
  | lossTimerExpiry l => exact stands_act (lossExpiry_standing · l)
  | gapTimerExpiry => exact stands_act gapExpiry_standing
  | timerBoundary => exact stands_act timerBoundary_standing
  | holdoverBoundary => exact stands_act holdoverBoundary_standing
  | epochInRisingEdge elapsed =>
    refine stands_next fun s => ?_
    split
    · rfl
    · exact pinRises_standing s elapsed
  | epochInFallingEdge => exact stands_next fun _ => rfl
  | stuckTimerExpiry => exact stands_act stuckExpiry_standing
  | linkBoundaryWork l => exact stands_act (linkBoundary_standing · l)
  | drainLimit l => exact stands_act (drainAtLimit_standing · l)
  | holdDownEnd l => exact stands_act (endHoldDown_standing · l)
  | commitBoundary => exact stands_act commitBoundary_standing
  | refresh => exact stands_act refreshFlow_standing
  | noticeBoundary => exact stands_act noticeBoundary_standing
  | walkExamination => exact stands_act walkOne_standing
  | checkCompletion => exact stands_act completeWalk_standing
  | flushRemoval l => exact stands_act (flushOne_standing · l)
  | flushCompletion l => exact stands_act (flushEnd_standing · l)
  | transmitReady l =>
    refine stands_next fun s => ?_
    split
    · rfl
    · exact ready_standing s l
  | read => exact stands_serve judgeRead_standing
  | readClear => exact stands_serve judgeReadClear_standing
  | write => exact stands_serve judgeWriteOther_standing
  | writeConfig => exact stands_serve judgeWriteConfig_standing
  | writePortMap => exact stands_serve judgeWritePortMap_standing
  | writeStage => exact stands_serve judgeWriteStage_standing
  | writeActive => exact stands_serve judgeWriteActive_standing
  | writeMasks => exact stands_serve judgeWriteMasks_standing
  | commit => exact stands_serve judgeCommit_standing
  | commitNow => exact stands_serve judgeCommitNow_standing
  | cancelCommit => exact stands_serve judgeCancelCommit_standing
  | linkEnable => exact stands_serve judgeLinkEnable_standing
  | linkDisableNow => exact stands_serve judgeLinkDisableNow_standing
  | linkDisableDrain => exact stands_serve judgeLinkDisableDrain_standing
  | linkTest => exact stands_serve judgeLinkTest_standing
  | closeConfig => exact stands_serve judgeCloseConfig_standing
  | setEpoch | echo | unknownCommand => exact stands_serve fun _ _ => rfl
  | softReset => exact stands_act serveSoftReset_standing
  | busTransferEnd r => exact stands_act (endTransfer_standing · r)
  | transferRepeat => exact stands_act repeatTransfer_standing
  | storageUpset | signalLost | signalRestored | alignmentGained | alignmentLost | blankTimerExpiry | flapClear | epochOutFall =>
    exact stands_act fun _ => rfl

/-- R191: the reset event leaves the commands that wait. -/
theorem elementReset_pending (s : State) (bootSel : Bool) (id : BitVec 6) : (s.elementReset bootSel id).pending = s.pending := by
  cases bootSel <;> rfl

/-- Settles O3: the two rows of the reset by what they write, every other command by what it leaves. -/
theorem everyCommandAnswersNext : Obligations.EveryCommandAnswersNext := by
  intro c s
  by_cases hreset : ∃ bootSel id, c = .elementReset bootSel id
  · obtain ⟨bootSel, id, rfl⟩ := hreset
    exact ⟨s.elementReset bootSel id, rfl, elementReset_pending s bootSel id, fun other => absurd rfl (other bootSel id)⟩
  · by_cases hlow : c = .resetNLow
    · subst hlow
      exact ⟨s.holdReset, rfl, rfl, fun _ => ⟨rfl, rfl, fun other => absurd rfl other⟩⟩
    · obtain ⟨t, ht, standing⟩ := stands_exec c (fun bootSel id h => hreset ⟨bootSel, id, h⟩) hlow s
      obtain ⟨pending, rest⟩ := Prod.mk.inj standing
      obtain ⟨inReset, rest⟩ := Prod.mk.inj rest
      obtain ⟨identity, bootSel⟩ := Prod.mk.inj rest
      exact ⟨t, ht, pending, fun _ => ⟨identity, bootSel, fun _ => inReset⟩⟩

end Sys2Proof.Machine
end

section
/-! SUPPORT. Latching a flag and counting (spec/10_flags_notices_and_counters.md, R181, R184, R189): what each leaves of the other flags
and the other counters. -/

namespace Sys2Proof.Machine

variable (s : State) (l : LinkId)

/-! ### One flag alone (R181) -/

/-- R181: a link flag that latches leaves the link's other flags. -/
theorem linkFlag_latchLink_ne {f g : LinkFlag} (h : g ≠ f) : (s.latchLink l f).linkFlag l g = s.linkFlag l g :=
  linkFlag_of_setBitAt_ne (congrArg Port.flags (latchLink_port_self s l f)) h

/-! ### One counter alone (R176, R189) -/

/-- R176: the indices count the per-link counters in the order of their declaration. -/
theorem linkCounter_index_val (k : LinkCounter) : k.index.val = k.ctorIdx := by cases k <;> rfl

theorem elementCounter_index_val (k : ElementCounter) : k.index.val = k.ctorIdx := by cases k <;> rfl

theorem linkCounter_index_injective : Function.Injective LinkCounter.index := fun j k h => by
  have hidx : j.ctorIdx = k.ctorIdx := by rw [← linkCounter_index_val, ← linkCounter_index_val, h]
  rw [← LinkCounter.ofNat_ctorIdx j, hidx, LinkCounter.ofNat_ctorIdx]

theorem elementCounter_index_injective : Function.Injective ElementCounter.index := fun j k h => by
  have hidx : j.ctorIdx = k.ctorIdx := by rw [← elementCounter_index_val, ← elementCounter_index_val, h]
  rw [← ElementCounter.ofNat_ctorIdx j, hidx, ElementCounter.ofNat_ctorIdx]

/-- R189: the element counter that counts. -/
theorem countElement_self (k : ElementCounter) :
    (s.countElement k).elementCounters[k.index] = countUp s.elementCounters[k.index] := by
  simp

/-- R189: an element counter that counts leaves the others. -/
theorem countElement_ne {j k : ElementCounter} (h : j ≠ k) :
    (s.countElement k).elementCounters[j.index] = s.elementCounters[j.index] := by
  have : k.index.val ≠ j.index.val := fun e => h (elementCounter_index_injective (Fin.ext e.symm))
  simp [this]

/-! ### The statement -/

/-- Settles O47: the flag and the counter named, then the others, then the frame, for each of the four operations. -/
theorem latchingAndCounting : Obligations.LatchingAndCounting := by
  refine ⟨fun s f => ?latch, fun s l f => ?latchLink, fun s l k => ?countLink, fun s k => ?countElement⟩
  case latch =>
    exact ⟨elementFlag_latch_self s f,
      fun g hg => elementFlag_latch_ne s fun e => hg (elementFlag_bit_injective e), rfl⟩
  case latchLink =>
    refine ⟨linkFlag_latchLink_self s l f, fun g => linkFlag_latchLink_ne s l, fun m hm => latchLink_port_ne s hm f, ?_,
      latchLink_notice s l f, latchLink_frame s l f⟩
    rw [latchLink_port_self]
  case countLink =>
    rw [port_countLink_self]
    refine ⟨rfl, rfl, ?_, fun j hj => count_ne _ (linkCounter_index_injective.ne hj), fun m hm => port_countLink_ne hm k⟩
    rw [count_self, countUp_toNat_min]
  case countElement =>
    refine ⟨rfl, ?_, fun j => countElement_ne s⟩
    rw [countElement_self, countUp_toNat_min]

end Sys2Proof.Machine
end

section
/-! SUPPORT. Every invariant at the reset event (spec/11_start_up_and_boot_image.md, R191, R192; Sys2Proof/Safety.lean). -/

namespace Sys2Proof.Machine

/-- R191: State.reset is the state that the reset event leaves from it, with its own samples. -/
theorem elementReset_reset : State.reset.elementReset true 0 = State.reset := by
  have links : State.reset.ports.map Port.elementReset = State.reset.ports := Vector.map_replicate
  show { State.reset with ports := State.reset.ports.map Port.elementReset } = State.reset
  rw [links]

section
variable (s : State) (bootSel : Bool) (id : BitVec 6)

theorem bufferConserved_elementReset : (s.elementReset bootSel id).BufferConserved :=
  bufferConserved_iff.2 (elementReset_stock s bootSel id ▸ conserved_empty)

theorem queuesBounded_elementReset : (s.elementReset bootSel id).QueuesBounded :=
  queuesBounded_iff.2 (elementReset_stock s bootSel id ▸ bounded_empty)

theorem creditBounded_elementReset : (s.elementReset bootSel id).CreditBounded :=
  creditBounded_iff.2 fun l => creditBounded_zero (by rw [elementReset_port]; split <;> rfl)

theorem routesSound_elementReset : (s.elementReset bootSel id).RoutesSound :=
  routesSound_iff.2 (elementReset_routes s bootSel id ▸ sound_routeStore_reset)

theorem epochSound_elementReset : (s.elementReset bootSel id).EpochSound := by
  have values : (s.elementReset bootSel id).timing = (EpochUnit.reset s.epoch.pinHigh, 0) := by cases bootSel <;> rfl
  obtain ⟨epoch, source⟩ := Prod.mk.inj values
  rw [epochSound_iff, epoch, source]
  exact sound_epochReset _

end

/-- Settles O60: each invariant of the state that a reset event leaves, and State.reset as one of these. -/
theorem invariantsHoldAtReset : Obligations.InvariantsHoldAtReset := by
  intro t ht
  have reset : ∃ bootSel id s, t = State.elementReset s bootSel id := by
    rcases ht with rfl | ⟨bootSel, id, s, h⟩
    · exact ⟨true, 0, State.reset, elementReset_reset.symm⟩
    · exact ⟨bootSel, id, s, (Host.Outcome.next.inj h).symm⟩
  obtain ⟨bootSel, id, s, rfl⟩ := reset
  exact ⟨bufferConserved_elementReset s bootSel id, queuesBounded_elementReset s bootSel id,
    creditBounded_elementReset s bootSel id, serviceSound_elementReset s bootSel id, configSound_elementReset s bootSel id,
    routesSound_elementReset s bootSel id, linksSound_elementReset s bootSel id, epochSound_elementReset s bootSel id⟩

end Sys2Proof.Machine
end

section
/-! SUPPORT. The boot image, pass one and the transfers of the boot bus (spec/11_start_up_and_boot_image.md, R193, R194, R196). -/

namespace Sys2Proof.Machine

variable {s : State} {f : Fields} {image : List Byte} {i n : Nat}

/-! ### The image cut at LENGTH (R193) -/

theorem byteAt_take (h : i < n) : byteAt (image.take n) i = byteAt image i := by
  simp [byteAt, h]

theorem halfAt_take (h : i + 1 < n) : halfAt (image.take n) i = halfAt image i := by
  rw [halfAt, halfAt, byteAt_take (by omega), byteAt_take h]

theorem headerPossible_iff : headerPossible image = true ↔
    byteAt image 0 = 1 ∧ 16 ≤ (halfAt image 2).toNat ∧ (halfAt image 2).toNat ≤ 16384 ∧ halfAt image 4 ≠ 0 := by
  have count : 1 ≤ (halfAt image 4).toNat ↔ halfAt image 4 ≠ 0 := by bv_omega
  simp only [headerPossible, Bool.and_eq_true, beq_iff_eq, decide_eq_true_iff, and_assoc, count]

theorem headerPossible_eq_false : headerPossible image = false ↔
    byteAt image 0 ≠ 1 ∨ (halfAt image 2).toNat < 16 ∨ 16384 < (halfAt image 2).toNat ∨ halfAt image 4 = 0 := by
  rw [Bool.eq_false_iff, Ne, headerPossible_iff]
  simp only [not_and_or, Nat.not_le, not_not]

/-- The header is read alike from the whole image and from its first bytes. -/
theorem headerPossible_take (h : 6 ≤ n) : headerPossible (image.take n) = headerPossible image := by
  rw [headerPossible, headerPossible, byteAt_take (by omega), halfAt_take (by omega), halfAt_take (by omega)]

section
variable (hh : headerPossible image = true) (hn : n = (halfAt image 2).toNat)
include hh hn

theorem imageWellFormed_take :
    imageWellFormed (image.take n) = walkRecords (image.take n) (n - 4) (halfAt image 4).toNat 6 := by
  obtain ⟨-, h16, -, -⟩ := headerPossible_iff.1 hh
  rw [imageWellFormed, headerPossible_take (by omega), hh, Bool.true_and, halfAt_take (by omega), halfAt_take (by omega), ← hn]

theorem imageChecks_take (hl : n ≤ image.length) :
    imageChecks (image.take n) = true ↔ bytes32 (crc32 ((image.take n).take (n - 4))) = (image.take n).drop (n - 4) := by
  obtain ⟨-, h16, -, -⟩ := headerPossible_iff.1 hh
  have check : field (image.take n) (n - 4) 4 = (image.take n).drop (n - 4) :=
    padTo_of_length (by rw [List.length_drop, List.length_take]; omega)
  rw [imageChecks, halfAt_take (by omega), ← hn, check, beq_iff_eq]

end

/-! ### Records (R193) -/

theorem recordHeader_eq (image : List Byte) (i : Nat) : recordHeader image i =
    { tag := 0, command := byteAt image i, object := byteAt image (i + 1), index := halfAt image (i + 2),
      count := byteAt image (i + 4), arg := byteAt image (i + 5), data := image.drop (i + 6) } := by
  simp only [recordHeader, halfAt, byteAt_drop, List.drop_drop, Nat.add_zero, Nat.add_assoc]

theorem recordLength_write {o : Object} (h : f.command = 0x02) (ho : objectOf f.object = some o) :
    f.recordLength = some (6 + f.count.toNat * o.size) := by
  rw [Fields.recordLength, h, ho]; rfl

theorem recordLength_unknownObject (h : f.command = 0x02) (ho : objectOf f.object = none) : f.recordLength = none := by
  rw [Fields.recordLength, h, ho]; rfl

/-- R193: LINK_ENABLE, LINK_DISABLE and CLOSE_CONFIG have no DATA. -/
theorem recordLength_noData (h : f.command = 0x20 ∨ f.command = 0x21 ∨ f.command = 0x40) : f.recordLength = some 6 := by
  rcases h with h | h | h <;> rw [Fields.recordLength, h] <;> rfl

/-- R13: the codes of the four commands that a record may have. -/
theorem commandOf_record : ∀ b : Byte, (commandOf b = some .write → b = 0x02) ∧ (commandOf b = some .linkEnable → b = 0x20) ∧
    (commandOf b = some .linkDisable → b = 0x21) ∧ (commandOf b = some .closeConfig → b = 0x40) := by
  decide +kernel

theorem recordLength_otherCommand (hw : f.command ≠ 0x02) (he : f.command ≠ 0x20) (hd : f.command ≠ 0x21)
    (hc : f.command ≠ 0x40) : f.recordLength = none := by
  obtain ⟨write, enable, disable, close⟩ := commandOf_record f.command
  unfold Fields.recordLength
  split <;> rename_i h
  · exact absurd (write h) hw
  · exact absurd (enable h) he
  · exact absurd (disable h) hd
  · exact absurd (close h) hc
  all_goals rfl

/-! ### The walk of the records (R193) -/

theorem walkRecords_zero {stop : Nat} : walkRecords image stop 0 i = true ↔ i = stop := beq_iff_eq

theorem walkRecords_succ {stop : Nat} : walkRecords image stop (n + 1) i = true ↔
    i + 6 ≤ stop ∧ ∃ len, (recordHeader image i).recordLength = some len ∧ i + len ≤ stop ∧
      walkRecords image stop n (i + len) = true := by
  rw [walkRecords]
  cases (recordHeader image i).recordLength with
  | none => simp
  | some len => simp

/-! ### Pass one (R194) -/

theorem passOne_awaitsHeader (h : s.boot.image.length < 6) : s.passOne = s := if_pos h

section
variable (h6 : 6 ≤ s.boot.image.length)
include h6

theorem passOne_badHeader (h : headerPossible s.boot.image = false) : s.passOne = s.bootFailure .badHeader := by
  rw [State.passOne, if_neg (Nat.not_lt.2 h6), h]
  rfl

variable (hh : headerPossible s.boot.image = true) (hn : n = (halfAt s.boot.image 2).toNat)
include hh hn

theorem passOne_awaitsImage (h : s.boot.image.length < n) : s.passOne = s := by
  subst hn
  rw [State.passOne, if_neg (Nat.not_lt.2 h6), hh]
  exact if_pos h

/-- R194: the last byte is read: the image is judged by its form, then by its check. -/
theorem passOne_judged (h : n ≤ s.boot.image.length) : s.passOne =
    if imageWellFormed (s.boot.image.take n) = false then s.bootFailure .badHeader
    else if imageChecks (s.boot.image.take n) = false then s.bootFailure .badCheck
    else s.modBoot fun b =>
      { b with state := .applying, length := n, recordCount := (halfAt s.boot.image 4).toNat, image := [], offset := 6,
               recordIndex := 0 } := by
  subst hn
  simp only [State.passOne, if_neg (Nat.not_lt.2 h6), hh, if_neg (Nat.not_lt.2 h), Bool.not_true, Bool.not_eq_true',
    Bool.false_eq_true, if_false]

end

/-! ### Transfers (R196) -/

theorem exec_busTransferEnd {r : BusResult} (hr : s.inReset = false) :
    exec (.busTransferEnd r) s = .next (s.endTransfer r) := act_run _ hr

theorem endTransfer_noAck (hb : s.boot.bus = .transferring) : s.endTransfer .noAck = s.bootFailure .noAck := if_pos ⟨hb, rfl⟩

theorem endTransfer_arbitrationLost (hb : s.boot.bus = .transferring) :
    s.endTransfer .arbitrationLost = s.loseArbitration := if_pos ⟨hb, rfl⟩

/-- R194, R196: in pass one the bytes of a transfer that succeeded join the image. -/
theorem endTransfer_checking {bytes : List Byte} (hb : s.boot.bus = .transferring) (hc : s.boot.state = .checking)
    (h1 : 1 ≤ bytes.length) (h32 : bytes.length ≤ 32) : s.endTransfer (.success bytes) =
      (s.modBoot fun b => { b with image := b.image ++ bytes, arbRun := 0 }).passOne := by
  have possible : (BusResult.success bytes).possible = true := by simp [BusResult.possible, h1, h32]
  refine (if_pos ⟨hb, possible⟩).trans ?_
  simp only [State.takeBytes, hc]

theorem loseArbitration_below (h : s.boot.arbRun < 7) : s.loseArbitration =
    { s with boot := { s.boot with arbRun := s.boot.arbRun + 1, bus := .waiting } } :=
  if_neg (Nat.not_le.2 (Nat.succ_lt_succ h))

theorem loseArbitration_limit (h : s.boot.arbRun = 7) : s.loseArbitration =
    ({ s with boot := { s.boot with arbRun := 8, bus := .waiting } } : State).bootFailure .arbitration := by
  have last : s.boot.arbRun + 1 = 8 := congrArg (· + 1) h
  rw [← last]
  exact if_pos last.ge

theorem exec_transferRepeat (hr : s.inReset = false) (hb : s.boot.bus = .waiting) :
    exec .transferRepeat s = .next { s with boot := { s.boot with bus := .transferring } } := by
  have again : s.boot.repeatTransfer = { s.boot with bus := .transferring } := if_pos hb
  refine (act_run _ hr : execTransferRepeat s = _).trans ?_
  rw [State.modBoot, again]

/-! ### The statement -/

/-- Settles O50: a transfer by how it ends, pass one by what the image holds, a record's length by its COMMAND and OBJECT, and the
walk record by record. -/
theorem bootTransfersAndPassOne : Obligations.BootTransfersAndPassOne := by
  refine ⟨fun s hr => ⟨fun hb => ⟨?noAck, fun h => ?lost, fun h => ?lostLast⟩, exec_transferRepeat hr⟩,
    fun s t bytes image length hr hb hc h1 h32 himage hlength ht => ?passOne, recordHeader_eq,
    fun f => ⟨fun _ => recordLength_write, recordLength_noData, recordLength_unknownObject, recordLength_otherCommand⟩,
    fun x stop n i => ⟨walkRecords_zero, walkRecords_succ⟩⟩
  case noAck => rw [exec_busTransferEnd hr, endTransfer_noAck hb]
  case lost => rw [exec_busTransferEnd hr, endTransfer_arbitrationLost hb, loseArbitration_below h]
  case lostLast => rw [exec_busTransferEnd hr, endTransfer_arbitrationLost hb, loseArbitration_limit h]
  case passOne =>
    have joined : t = s.modBoot fun b => { b with image := b.image ++ bytes, arbRun := 0 } := by rw [ht, himage]; rfl
    have taken : t.boot.image = image := by rw [ht]
    rw [exec_busTransferEnd hr, endTransfer_checking hb hc h1 h32, ← joined]
    clear ht joined himage
    subst taken hlength
    refine ⟨fun h => by rw [passOne_awaitsHeader h], fun h6 bad => by rw [passOne_badHeader h6 (headerPossible_eq_false.2 bad)],
      fun h6 format least most count => ?_⟩
    have possible := headerPossible_iff.2 ⟨format, least, most, count⟩
    refine ⟨fun h => by rw [passOne_awaitsImage h6 possible rfl h], fun h x wellFormed hx hw => ?_⟩
    have form : imageWellFormed x = wellFormed := by rw [hw, hx, imageWellFormed_take possible rfl]
    have check := imageChecks_take possible rfl h
    rw [passOne_judged h6 possible rfl h, ← hx, form]
    rw [← hx] at check
    refine ⟨fun bad => by rw [if_pos bad], fun good differs => ?_, fun good agrees => ?_⟩ <;>
      rw [if_neg (by rw [good]; exact Bool.noConfusion)]
    · rw [if_pos (Bool.eq_false_iff.2 (differs ∘ check.1))]
    · rw [if_neg (by rw [check.2 agrees]; exact Bool.noConfusion)]
      rfl

end Sys2Proof.Machine
end
